-- ==== Sys2Proof/Word.lean ====
section
/-! DEFINITION. The value types of the core: channels, colours, packed colours, frame entries, micro-words, indices,
instants and tokens (spec/00_scope.md R5, R7, R12; spec/10_state.md R20; spec/30_encoding.md R80). -/

namespace Sys2Proof

/-- `P_CHANNEL_BITS` = 8: one colour channel, unsigned (00_scope.md R5, 10_state.md R21). -/
abbrev Channel := BitVec 8

/-- `PACKED24`: a colour in transmission layout (30_encoding.md R80, R82). -/
abbrev Packed := BitVec 24

/-- A colour as the configuration holds it, `{r, g, b}` (30_encoding.md R81). -/
abbrev LogicalColor := BitVec 24

/-- `ENTRY32`: one frame entry word (30_encoding.md R80, R84). -/
abbrev EntryWord := BitVec 32

/-- `P_DUR_BITS` = 15: a duration field of an entry word, in ticks (00_scope.md R5, 30_encoding.md R84). -/
abbrev Duration := BitVec 15

/-- A whole frame, the Pulse Code: `P_FRAME_LEN` = 25 entry words, of which `P_DATA_BITS` = 24 are data entries
(00_scope.md R5, 10_state.md R30). -/
abbrev Frame := Vector EntryWord 25

/-- `UWORD8`: a micro-word (30_encoding.md R80, R88). -/
abbrev MicroWord := BitVec 8

/-- A micro-program index, the type of `UPC` and of `TGT` (10_state.md R28, 30_encoding.md R88). -/
abbrev MicroIndex := BitVec 4

/-- The fixed 16-entry micro-program ROM (30_encoding.md R90). -/
abbrev Rom := Vector MicroWord 16

/-- A completion token: opaque to the core, which only hands it back (10_state.md R31). -/
abbrev Token := Nat

/-- The identifier of the output line, opaque to the core (10_state.md R32 CFG9, 92 D31). -/
abbrev OutLine := Nat

/-- A logical colour: three unsigned 8-bit channels in the field order red, green, blue (30_encoding.md R81). -/
structure Color where
  r : Channel
  g : Channel
  b : Channel
  deriving DecidableEq, Repr, Inhabited

end Sys2Proof
end

