-- ==== Sys2Proof/Syntax.lean ====
section
/-! DEFINITION. The micro-operations: one constructor for each row of spec/opcode_table.json (spec/30_encoding.md R89, R91). -/

namespace Sys2Proof

/-- The nine micro-operations. Only TIMECHK and DELAY have an operand, the micro-program index `TGT`
(30_encoding.md R88, R91, R95). -/
inductive Instr where
  /-- INIT (42_sequencer.md R176). -/
  | init
  /-- TIMECHK, with the not-taken target (42_sequencer.md R180). -/
  | timechk (tgt : MicroIndex)
  /-- FADE (41_fade_controller.md R150). -/
  | fade
  /-- STAMP (42_sequencer.md R185). -/
  | stamp
  /-- PACK (40_pulse_encoder.md R119). -/
  | pack
  /-- ENCODE (40_pulse_encoder.md R120). -/
  | encode
  /-- TX (42_sequencer.md R190). -/
  | tx
  /-- WAIT (42_sequencer.md R195). -/
  | wait
  /-- DELAY, with the loop target (42_sequencer.md R200). -/
  | delay (tgt : MicroIndex)
  deriving DecidableEq, Repr

end Sys2Proof
end

