-- ==== Sys2Proof/Decode.lean ====
section
/-! DEFINITION. Micro-words: the decoder, total on all 256 of them and rejecting by name (spec/30_encoding.md R88, R89, R92,
R93, R95), after it the encoder, the micro-program ROM (R90) and the listing text of it (R94). -/

namespace Sys2Proof

/-- What a micro-word decodes to: one of the nine micro-ops, or ILLEGAL with the reserved `OP` (30_encoding.md R93). -/
inductive Decoded where
  | instr (i : Instr)
  | illegal (op : BitVec 4)
  deriving DecidableEq, Repr

/-- `OP = w[3:0]` (30_encoding.md R88). -/
def opField (w : MicroWord) : BitVec 4 := w.extractLsb' 0 4

/-- `TGT = w[7:4]` (30_encoding.md R88). -/
def tgtField (w : MicroWord) : MicroIndex := w.extractLsb' 4 4

/-- The decoder of 30_encoding.md R95. `TGT` is read only for TIMECHK and DELAY and ignored elsewhere (R92 (b)). -/
def decode (w : MicroWord) : Decoded :=
  match (opField w).toNat with
  | 0x0 => .instr .init
  | 0x1 => .instr (.timechk (tgtField w))
  | 0x2 => .instr .fade
  | 0x3 => .instr .stamp
  | 0x4 => .instr .pack
  | 0x5 => .instr .encode
  | 0x6 => .instr .tx
  | 0x7 => .instr .wait
  | 0x8 => .instr (.delay (tgtField w))
  | _   => .illegal (opField w)

/-- The `OP` of a micro-op (30_encoding.md R89). -/
def opcodeOf : Instr → BitVec 4
  | .init      => 0x0
  | .timechk _ => 0x1
  | .fade      => 0x2
  | .stamp     => 0x3
  | .pack      => 0x4
  | .encode    => 0x5
  | .tx        => 0x6
  | .wait      => 0x7
  | .delay _   => 0x8

/-- The `TGT` of a micro-op's word: its operand, and 0 where it has none (30_encoding.md R88, R91). -/
def tgtOf : Instr → MicroIndex
  | .timechk t => t
  | .delay t   => t
  | .init      => 0
  | .fade      => 0
  | .stamp     => 0
  | .pack      => 0
  | .encode    => 0
  | .tx        => 0
  | .wait      => 0

/-- The encoder: `{TGT, OP}` (30_encoding.md R88). -/
def encode (i : Instr) : MicroWord := tgtOf i ++ opcodeOf i

/-- The micro-program ROM of 30_encoding.md R90. -/
def microProgram : Rom :=
  #v[0x00, 0x51, 0x02, 0x03, 0x04, 0x05, 0x06, 0x07, 0x18, 0xFF, 0xFF, 0xFF, 0xFF, 0xFF, 0xFF, 0xFF]

/-- The instruction the decoder reads from a table row's word: a micro-word is one 8-bit value (30_encoding.md R93), whose
bits above `nbits` are 0. -/
def decodeTableWord (nbits w : Nat) : Option Instr :=
  match decode (BitVec.ofNat 8 (w % 2 ^ nbits)) with
  | .instr i   => some i
  | .illegal _ => none

/-- The mnemonic of a micro-op (30_encoding.md R89). -/
def mnemonic : Instr → String
  | .init      => "INIT"
  | .timechk _ => "TIMECHK"
  | .fade      => "FADE"
  | .stamp     => "STAMP"
  | .pack      => "PACK"
  | .encode    => "ENCODE"
  | .tx        => "TX"
  | .wait      => "WAIT"
  | .delay _   => "DELAY"

/-- A line of a listing: the mnemonic, then the target in decimal for TIMECHK and DELAY only (30_encoding.md R94). -/
def listing (i : Instr) : String :=
  match i with
  | .timechk t => mnemonic i ++ " " ++ toString t.toNat
  | .delay t   => mnemonic i ++ " " ++ toString t.toNat
  | .init | .fade | .stamp | .pack | .encode | .tx | .wait => mnemonic i

/-- A line of a listing with its optional index before it (30_encoding.md R94). -/
def listingAt (upc : MicroIndex) (i : Instr) : String := toString upc.toNat ++ ": " ++ listing i

/-- The two pseudo-instructions of listings; neither has a micro-word of its own (30_encoding.md R94). -/
inductive Pseudo where
  | update
  | send
  deriving DecidableEq, Repr

/-- What a pseudo-instruction expands to, in order (30_encoding.md R94). -/
def expand : Pseudo → List Instr
  | .update => [.fade, .stamp, .pack]
  | .send   => [.encode, .tx, .wait]

end Sys2Proof
end

