-- ==== Sys2Proof/Config.lean ====
section
/-! DEFINITION. What is fixed for the machine and what stays open: the configuration record of spec/00_scope.md R5 and
spec/10_state.md R32, the answers the external agents may give (spec/00_scope.md R10), and the free values, each an opaque
constant with no body (spec/93_implementation_defined.md I5 to I14). -/

namespace Sys2Proof

/-- CFG4 `TICK_MODE`: the tick conversion (10_state.md R32: 0 = EXACT, 1 = LEGACY; 92 D5). -/
inductive TickMode where
  | exact
  | legacy
  deriving DecidableEq, Repr, Inhabited

/-- The byte order of a frame a platform places in byte-addressed memory (20_memory.md R62). DESIGN CHOICE, unsafe: that it is one
of two orders is the model's; the spec lists no values of the parameter. Log entry 30. -/
inductive ByteOrder where
  | little
  | big
  deriving DecidableEq, Repr, Inhabited

/-- A level of the output line (30_encoding.md R84: a level bit of 1 is high). -/
inductive Level where
  | low
  | high
  deriving DecidableEq, Repr, Inhabited

/-- What INIT passes to the transmitter: `P_OUT_LINE` and `{tick = CLK_MHZ, idle = low}` (42_sequencer.md R176). -/
structure TxConfig where
  line    : OutLine
  tickMhz : BitVec 16
  idle    : Level
  deriving DecidableEq, Repr, Inhabited

/-- The answer of `Tx.acquire` (00_scope.md R10, 42_sequencer.md R173). -/
inductive AcquireAnswer where
  | ok
  | err
  deriving DecidableEq, Repr, Inhabited

/-- The answer of `Tx.transmit` (00_scope.md R10, 42_sequencer.md R173). -/
inductive TransmitAnswer where
  | token (t : Token)
  | err
  deriving DecidableEq, Repr, Inhabited

/-- The answer of `Tx.wait` (00_scope.md R10, 42_sequencer.md R173, R174). -/
inductive WaitAnswer where
  | done
  | err
  deriving DecidableEq, Repr, Inhabited

/-- The configuration record: CFG0 to CFG11 with the widths of 10_state.md R32, and the three further values 00_scope.md
R5 gives the record. The derived `T1L`, `T0L` and the tick counts are not stored (R32, R34). -/
structure Config where
  /-- CFG0 `CLK_MHZ`. -/
  clkMhz          : BitVec 16
  /-- CFG1 `T_PERIOD`. -/
  tPeriod         : BitVec 16
  /-- CFG2 `T1H`. -/
  t1h             : BitVec 16
  /-- CFG3 `T0H`. -/
  t0h             : BitVec 16
  /-- CFG4 `TICK_MODE`. -/
  tickMode        : TickMode
  /-- CFG5 `FADE_THRESHOLD_MS`. -/
  fadeThresholdMs : BitVec 16
  /-- CFG6 `ELAPSED_BIAS_MS`. -/
  elapsedBiasMs   : BitVec 8
  /-- CFG7 `DELAY_US`. -/
  delayUs         : BitVec 16
  /-- CFG8 `RAND_MOD`. -/
  randMod         : BitVec 9
  /-- CFG9 `OUT_LINE`. -/
  outLine         : OutLine
  /-- CFG10 `INIT_CURRENT`, as `{r, g, b}`. -/
  initCurrent     : LogicalColor
  /-- CFG11 `INIT_TARGET`, as `{r, g, b}`. -/
  initTarget      : LogicalColor
  /-- `P_RAND_WIDTH`, the width of an entropy word in bits (93 I6). -/
  randWidth       : Nat
  /-- `P_TIMER_TICKS_PER_MS` (93 I8). -/
  timerTicksPerMs : Nat
  /-- `P_FRAME_BYTE_ORDER` (20_memory.md R62, 93 I14). -/
  frameByteOrder  : ByteOrder
  deriving DecidableEq, Repr, Inhabited

/-- `P_OUT_LINE` is OPEN: no proof can see which line it is (92 D31). Log entry 6. -/
opaque Config.openOutLine : OutLine

/-- `P_FRAME_BYTE_ORDER` is OPEN: "a model must not assume a value for it" (20_memory.md R62). Log entry 7. -/
opaque Config.openFrameByteOrder : ByteOrder

/-- The build values of this hardware (00_scope.md R5, 10_state.md R32). -/
def Config.thisHardware : Config where
  clkMhz          := 80
  tPeriod         := 1250
  t1h             := 640
  t0h             := 320
  tickMode        := .exact
  fadeThresholdMs := 20
  elapsedBiasMs   := 1
  delayUs         := 100
  randMod         := 255
  outLine         := Config.openOutLine
  initCurrent     := 0x000000
  initTarget      := 0x000000
  randWidth       := 32
  timerTicksPerMs := 1000
  frameByteOrder  := Config.openFrameByteOrder

/-- FREE VALUE: what `Tx.acquire` answers at draw n, for the configuration it is given (93 I12). Log entry 8. -/
opaque Config.freeAcquire : Nat → TxConfig → AcquireAnswer

/-- FREE VALUE: the instant the timer offers at draw n, before monotonicity is applied (93 I9). Log entry 9. -/
opaque Config.freeInstant : Nat → Nat

/-- FREE VALUE: the entropy word at draw n, before it is cut to `P_RAND_WIDTH` bits (93 I5). Log entry 10. -/
opaque Config.freeWord : Nat → Nat

/-- FREE VALUE: what `Tx.transmit` answers at draw n, for the frame it is given (92 D18). Log entry 11. -/
opaque Config.freeTransmit : Nat → Frame → TransmitAnswer

/-- FREE VALUE: whether the transmitter completes at draw n while the Sequencer holds, and with which answer
(93 I10, I11). Log entry 12. -/
opaque Config.freeCompletion : Nat → Option WaitAnswer

/-- FREE VALUE: what `UPC` holds after `UPC + 1` at index 15, where the spec states no 4-bit result (10_state.md R28, R29;
00_scope.md R8: "no rule relies on wrap-around"). Log entry 27. -/
opaque Config.freeIndexPastEnd : Nat → MicroIndex

end Sys2Proof
end

