-- ==== Sys2Proof/Machine/Ticks.lean ====
section
/-! DEFINITION. Tick conversion: the four tick counts as functions of the configuration record
(spec/10_state.md R34; spec/40_pulse_encoder.md R111, R112, R113). -/

namespace Sys2Proof.Machine

/-- The four tick counts (00_scope.md R6). -/
structure TickCounts where
  t1h : Nat
  t1l : Nat
  t0h : Nat
  t0l : Nat
  deriving DecidableEq, Repr

/-- `T1L = T_PERIOD − T1H` in protocol units (40_pulse_encoder.md R111). -/
def lowOfBit1 (c : Config) : Nat := c.tPeriod.toNat - c.t1h.toNat

/-- `T0L = T_PERIOD − T0H` in protocol units (40_pulse_encoder.md R111). -/
def lowOfBit0 (c : Config) : Nat := c.tPeriod.toNat - c.t0h.toNat

/-- `round_ticks(d)`: the nearest tick, halves up (40_pulse_encoder.md R112). -/
def roundTicks (c : Config) (d : Nat) : Nat := (d * c.clkMhz.toNat + 500) / 1000

/-- `PERIOD_TICKS` of EXACT mode (40_pulse_encoder.md R112). -/
def periodTicks (c : Config) : Nat := roundTicks c c.tPeriod.toNat

/-- EXACT: rounded high times, low time the rounded period less the high time (40_pulse_encoder.md R112). -/
def exactTicks (c : Config) : TickCounts where
  t1h := roundTicks c c.t1h.toNat
  t1l := periodTicks c - roundTicks c c.t1h.toNat
  t0h := roundTicks c c.t0h.toNat
  t0l := periodTicks c - roundTicks c c.t0h.toNat

/-- `TICK_NS = 1000 div CLK_MHZ`, the truncated tick of LEGACY mode (40_pulse_encoder.md R113). -/
def tickNs (c : Config) : Nat := 1000 / c.clkMhz.toNat

/-- LEGACY: each protocol duration divided by the truncated tick (40_pulse_encoder.md R113). -/
def legacyTicks (c : Config) : TickCounts where
  t1h := c.t1h.toNat / tickNs c
  t1l := lowOfBit1 c / tickNs c
  t0h := c.t0h.toNat / tickNs c
  t0l := lowOfBit0 c / tickNs c

/-- The tick counts of a configuration, by its `TICK_MODE` (10_state.md R34). -/
def ticks (c : Config) : TickCounts :=
  match c.tickMode with
  | .exact  => exactTicks c
  | .legacy => legacyTicks c

end Sys2Proof.Machine
end

