-- ==== Sys2Proof/Machine/Operands.lean ====
section
/-! DEFINITION. The operand forms and layouts: packed colours (spec/30_encoding.md R81, R82, R83), entry words and their
fields (R84, R86, R87), the frame of a packed colour (spec/40_pulse_encoder.md R115 to R118, R121), and the byte image of a
frame a platform may keep (spec/20_memory.md R62). -/

namespace Sys2Proof.Machine

/-- A configuration colour `{r, g, b}` as three channels (30_encoding.md R81). -/
def logicalColor (v : LogicalColor) : Color where
  r := v.extractLsb' 16 8
  g := v.extractLsb' 8 8
  b := v.extractLsb' 0 8

/-- `pack(c) = {c.g, c.r, c.b}` (30_encoding.md R82, 40_pulse_encoder.md R110). -/
def pack (c : Color) : Packed := c.g ++ c.r ++ c.b

/-- `unpack(v) = (v[15:8], v[23:16], v[7:0])` (30_encoding.md R83). -/
def unpack (v : Packed) : Color where
  r := v.extractLsb' 8 8
  g := v.extractLsb' 16 8
  b := v.extractLsb' 0 8

/-- A level as its level bit: 1 = high (30_encoding.md R84). -/
def levelBit : Level → BitVec 1
  | .low  => 0
  | .high => 1

/-- The level a level bit names (30_encoding.md R84). -/
def levelOfBit (b : Bool) : Level := if b then .high else .low

/-- `{LVL1, DUR1, LVL0, DUR0}`: an entry word from its four fields (30_encoding.md R84). -/
def entryWord (lvl0 : Level) (dur0 : Duration) (lvl1 : Level) (dur1 : Duration) : EntryWord :=
  levelBit lvl1 ++ dur1 ++ levelBit lvl0 ++ dur0

/-- `DUR0 = w[14:0]` (30_encoding.md R84). -/
def dur0 (w : EntryWord) : Duration := w.extractLsb' 0 15

/-- `LVL0 = w[15]` (30_encoding.md R84). -/
def lvl0 (w : EntryWord) : Level := levelOfBit (w.getLsbD 15)

/-- `DUR1 = w[30:16]` (30_encoding.md R84). -/
def dur1 (w : EntryWord) : Duration := w.extractLsb' 16 15

/-- `LVL1 = w[31]` (30_encoding.md R84). -/
def lvl1 (w : EntryWord) : Level := levelOfBit (w.getLsbD 31)

/-- A data entry: high for `high` ticks, then low for `low` ticks (30_encoding.md R86). The counts fit by 10_state.md R33 (4). -/
def dataWord (high low : Nat) : EntryWord := entryWord .high (BitVec.ofNat 15 high) .low (BitVec.ofNat 15 low)

/-- `WORD_BIT1` (30_encoding.md R86). -/
def wordBit1 (c : Config) : EntryWord := dataWord (ticks c).t1h (ticks c).t1l

/-- `WORD_BIT0` (30_encoding.md R86). -/
def wordBit0 (c : Config) : EntryWord := dataWord (ticks c).t0h (ticks c).t0l

/-- `WORD_TERM = 0x00000000` (30_encoding.md R86, 40_pulse_encoder.md R118). -/
def wordTerm : EntryWord := 0x00000000

/-- What an entry word stands for (30_encoding.md R87). -/
inductive EntryKind where
  | bit (b : Bool)
  | term
  | invalid
  deriving DecidableEq, Repr

/-- `decode_entry(w)` (30_encoding.md R87). -/
def decodeEntry (c : Config) (w : EntryWord) : EntryKind :=
  if w = wordBit1 c then .bit true
  else if w = wordBit0 c then .bit false
  else if w = wordTerm then .term
  else .invalid

/-- The source bit of data entry i: `v[23 − i]` (20_memory.md R61, 40_pulse_encoder.md R115). -/
def sourceBit (v : Packed) (i : Nat) : Bool := v.getLsbD (23 - i)

/-- The word of a source bit (40_pulse_encoder.md R116). -/
def profileWord (c : Config) (b : Bool) : EntryWord := if b then wordBit1 c else wordBit0 c

/-- `encode(v)`: 24 data entries and the terminator (40_pulse_encoder.md R115, R116, R118, R121). -/
def encodeFrame (c : Config) (v : Packed) : Frame :=
  ⟨⟨(List.range 24).map (fun i => profileWord c (sourceBit v i)) ++ [wordTerm]⟩, by simp⟩

/-- The four bytes of an entry word in a byte order (20_memory.md R62). -/
def entryBytes (o : ByteOrder) (w : EntryWord) : List (BitVec 8) :=
  match o with
  | .little => [w.extractLsb' 0 8, w.extractLsb' 8 8, w.extractLsb' 16 8, w.extractLsb' 24 8]
  | .big    => [w.extractLsb' 24 8, w.extractLsb' 16 8, w.extractLsb' 8 8, w.extractLsb' 0 8]

/-- A byte image of a frame that a platform places in byte-addressed memory; no rule of the core reads it (20_memory.md R62,
92 D24). DESIGN CHOICE, unsafe: the entries lie contiguously, entry 0 first, which the spec leaves to the platform. Log entry 30. -/
def frameBytes (c : Config) (f : Frame) : List (BitVec 8) := f.toList.flatMap (entryBytes c.frameByteOrder)

end Sys2Proof.Machine
end

