-- ==== Sys2Proof/Machine/State.lean ====
section
/-! DEFINITION. The machine's state as plain data (spec/10_state.md R20, R41), the external agents as the core meets them
(spec/00_scope.md R4, R10; spec/42_sequencer.md R171, R174), the event history (spec/10_state.md R46), the reasons a step stops,
and the state after reset. -/

namespace Sys2Proof.Machine

/-- The faults a micro-op or the fetch raises, each with the entry of 60_exceptions.md R222 (R221). -/
inductive FaultCode where
  /-- INIT, when the acquisition fails. -/
  | fatalInit
  /-- TX or WAIT, when the transmitter reports an error. -/
  | fatalTx
  /-- Fetch, on a reserved `OP`. -/
  | illegalOp
  /-- TX, WAIT or ENCODE, against the single-owner discipline. -/
  | ownership
  deriving DecidableEq, Repr

/-- The events of the history (10_state.md R46). -/
inductive Event where
  | reset
  | acquire (a : AcquireAnswer)
  | time (t : Nat)
  | draw (w : Nat)
  | transmit (f : Frame)
  | done
  | txError
  | delay
  | fault (c : FaultCode) (upc : MicroIndex)
  deriving DecidableEq, Repr

/-- The transmitter as the core meets it (42_sequencer.md R174): nothing pending; emitting a frame, its answer to come; or
its answer given and not yet consumed. `frame` is the frame as it was at TX (20_memory.md R64, 92 D35). Log entry 17. -/
inductive Transmitter where
  | idle
  | emitting (token : Token) (frame : Frame)
  | answered (token : Token) (answer : WaitAnswer)
  deriving DecidableEq, Repr

/-- Whose step comes next (00_scope.md R4): the Sequencer's, the transmitter's own step with its answer, or a reset by the
environment. Log entry 14. -/
inductive Turn where
  | sequencer
  | transmitter (a : WaitAnswer)
  | reset
  deriving DecidableEq, Repr

/-- The external agents. `transmitter`, `txConfig` and `timerFloor` are theirs; the lists and `freeIndex` are the model's own:
the answers to come, and a counter for the free ones after them (log entries 13, 14). -/
structure Env where
  /-- The transmitter (42_sequencer.md R174). -/
  transmitter : Transmitter
  /-- What INIT configured the transmitter with (42_sequencer.md R176). Log entry 18. -/
  txConfig    : Option TxConfig
  /-- The greatest instant the timer has returned since the last reset (42_sequencer.md R171). -/
  timerFloor  : Nat
  /-- The next answers of `Tx.acquire`. -/
  acquires    : List AcquireAnswer
  /-- The next instants the timer offers. -/
  instants    : List Nat
  /-- The next words of the entropy source. -/
  words       : List Nat
  /-- The next answers of `Tx.transmit`. -/
  transmits   : List TransmitAnswer
  /-- Whose steps come next. -/
  turns       : List Turn
  /-- Counter of the free values drawn. -/
  freeIndex   : Nat
  deriving DecidableEq, Repr

/-- The agents before anything has happened: nothing pending, no answer fixed in advance. -/
def Env.start : Env where
  transmitter := .idle
  txConfig    := none
  timerFloor  := 0
  acquires    := []
  instants    := []
  words       := []
  transmits   := []
  turns       := []
  freeIndex   := 0

/-- The agents after a reset: the transmitter is reset, a transmission in flight abandoned and never answered, and the timer's
bound restarts (70_reset_and_hazards.md R250). The answers still to come are kept. -/
def Env.afterReset (e : Env) : Env :=
  { e with transmitter := .idle, txConfig := none, timerFloor := 0 }

/-- Reasons the model stops. A fault of the CORE is no stop: it is the entry of 60_exceptions.md R222, a next state. -/
inductive Fault where
  /-- Raised by a turn of the Sequencer while `FAULT ≠ 0`: HALTED has no step (42_sequencer.md R170, 60_exceptions.md R229).
  Safe: the spec gives no step. -/
  | halted
  /-- Raised by TIMECHK when `LAST_TS` holds no value (10_state.md R45: "A model must fault a read of it rather than pick one";
  93 I21: a model error, no `FAULT` code). Safe: the spec asks for it. -/
  | noValueLastTs
  /-- Raised by TX when an entry of `FRAME` holds no value (10_state.md R45; 42_sequencer.md R190: "every entry must hold a
  value"; 92 D15: "Reading an unwritten entry faults"; 93 I21). Safe: the spec asks for it. -/
  | noValueFrame
  deriving DecidableEq, Repr

/-- Reasons the model refuses. -/
inductive Refusal where
  /-- An instruction with no meaning yet; no arm of `exec` answers it. Safe. -/
  | notModelled (mnemonic : String)
  /-- Raised by `build` and by every step: the configuration record is ill-formed (10_state.md R33, 93 I23). Safe: the spec
  asks for it. -/
  | illFormedConfig
  deriving DecidableEq, Repr

/-- The state of the machine (10_state.md R20), with the parameters of R44 that no step writes and the model's history (R46). -/
structure State where
  /-- `CUR_R`, `CUR_G`, `CUR_B` (R21). -/
  cur         : Color
  /-- `TGT_R`, `TGT_G`, `TGT_B` (R22). -/
  tgt         : Color
  /-- `PACKED` (R25). -/
  packed      : Packed
  /-- `LAST_TS`; `none` is the spec's own "no value" (R26, R41, R45). Log entry 2. -/
  lastTs      : Option Nat
  /-- `THR` (R27). -/
  thr         : Bool
  /-- `UPC` (R28). -/
  upc         : MicroIndex
  /-- `FRAME[0..24]`; `none` is the spec's own "no value" (R30, R41, R45). Log entry 2. -/
  frame       : Vector (Option EntryWord) 25
  /-- `TX_BUSY` (R31). -/
  txBusy      : Bool
  /-- `HANDLE_OWNED` (R31). -/
  handleOwned : Bool
  /-- `TOKEN`; `none` is the spec's own `none` (R31). -/
  token       : Option Token
  /-- `FAULT` (R35). -/
  fault       : BitVec 3
  /-- `FAULT_UPC` (R35). -/
  faultUpc    : MicroIndex
  /-- The configuration record, a parameter (R32, R44). -/
  cfg         : Config
  /-- The micro-program ROM, a parameter (R44, 30_encoding.md R90). -/
  rom         : Rom
  /-- The external agents (00_scope.md R4). -/
  env         : Env
  /-- The event history, oldest first (R46). -/
  history     : List Event
  deriving DecidableEq, Repr

/-- Every element at its reset value (10_state.md R41), `EvReset` appended (70_reset_and_hazards.md R250). -/
def State.resetWith (c : Config) (rom : Rom) (e : Env) (h : List Event) : State where
  cur         := logicalColor c.initCurrent
  tgt         := logicalColor c.initTarget
  packed      := pack (logicalColor c.initCurrent)
  lastTs      := none
  thr         := false
  upc         := 0
  frame       := Vector.replicate 25 none
  txBusy      := false
  handleOwned := false
  token       := none
  fault       := 0
  faultUpc    := 0
  cfg         := c
  rom         := rom
  env         := e
  history     := h ++ [.reset]

/-- The machine right after reset: this hardware's record, the micro-program of 30_encoding.md R90, nothing scripted. -/
def State.reset : State := State.resetWith Config.thisHardware microProgram Env.start []

end Sys2Proof.Machine
end

