-- ==== Sys2Proof/Machine/Flags.lean ====
section
/-! DEFINITION. The conditions and comparisons, and where each lives (spec/10_state.md R23, R36): colour equality, the
threshold of TIMECHK, HALTED, and the ownership checks of spec/60_exceptions.md R227. -/

namespace Sys2Proof.Machine

/-- `EQ(c, d)`: all three channels equal (10_state.md R23). -/
def colorEq (c d : Color) : Bool := c.r == d.r && c.g == d.g && c.b == d.b

/-- `elapsed_since`: whole milliseconds from `last` to `t`, rounded down (42_sequencer.md R172). Log entry 28. -/
def elapsedMs (c : Config) (last t : Nat) : Nat := (t - last) / c.timerTicksPerMs

/-- `elapsed` of TIMECHK: the bias is added after the rounding (42_sequencer.md R180, 92 D28). -/
def biasedElapsed (c : Config) (last t : Nat) : Nat := elapsedMs c last t + c.elapsedBiasMs.toNat

/-- `elapsed > FADE_THRESHOLD_MS`, strictly (42_sequencer.md R180). -/
def thresholdReached (c : Config) (last t : Nat) : Bool :=
  decide (biasedElapsed c last t > c.fadeThresholdMs.toNat)

/-- HALTED is `FAULT ≠ 0` (10_state.md R36 (e)). -/
def halted (s : State) : Bool := s.fault != 0

/-- TX may not issue: `HANDLE_OWNED = 0` or `TX_BUSY = 1` (60_exceptions.md R227 (a)). -/
def txForbidden (s : State) : Bool := !s.handleOwned || s.txBusy

end Sys2Proof.Machine
end

