-- ==== Sys2Proof/WellFormed.lean ====
section
/-! DEFINITION. What is well-formed: a configuration record (spec/10_state.md R33, its six conditions one by one) and a
micro-word (spec/30_encoding.md R88, R92). An `Instr` carries nothing ill-formed: its only operand is a 4-bit index, and every
4-bit value is an index (spec/10_state.md R28). -/

namespace Sys2Proof

/-- R33 (1): `CLK_MHZ ≥ 1`. -/
abbrev Config.clockRuns (c : Config) : Prop := 1 ≤ c.clkMhz.toNat

/-- R33 (2): in LEGACY mode `CLK_MHZ ≤ 1000`. -/
abbrev Config.legacyTickNonzero (c : Config) : Prop := c.tickMode = .legacy → c.clkMhz.toNat ≤ 1000

/-- R33 (3): `0 < T0H < T1H < T_PERIOD`. -/
abbrev Config.highTimesOrdered (c : Config) : Prop :=
  0 < c.t0h.toNat ∧ c.t0h.toNat < c.t1h.toNat ∧ c.t1h.toNat < c.tPeriod.toNat

/-- A tick count that is no terminator and fits the 15-bit duration field: in [1, 2^15 − 1] (10_state.md R33 (4)). -/
abbrev tickFits (n : Nat) : Prop := 1 ≤ n ∧ n ≤ 2 ^ 15 - 1

/-- R33 (4): each of the four tick counts lies in [1, 2^15 − 1]. -/
abbrev Config.ticksFit (c : Config) : Prop :=
  tickFits (Machine.ticks c).t1h ∧ tickFits (Machine.ticks c).t1l ∧ tickFits (Machine.ticks c).t0h ∧ tickFits (Machine.ticks c).t0l

/-- R33 (5): `T0H_TICKS < T1H_TICKS`. -/
abbrev Config.profilesDiffer (c : Config) : Prop := (Machine.ticks c).t0h < (Machine.ticks c).t1h

/-- R33 (6): CFG5 to CFG8 hold the values of 10_state.md R32. -/
abbrev Config.literalsKept (c : Config) : Prop :=
  c.fadeThresholdMs = 20 ∧ c.elapsedBiasMs = 1 ∧ c.delayUs = 100 ∧ c.randMod = 255

/-- A well-formed configuration record: exactly the six conditions of 10_state.md R33. -/
abbrev Config.wellFormed (c : Config) : Prop :=
  c.clockRuns ∧ c.legacyTickNonzero ∧ c.highTimesOrdered ∧ c.ticksFit ∧ c.profilesDiffer ∧ c.literalsKept

/-- `P_TIMER_TICKS_PER_MS` is a divisor, so it is at least 1 (DEDUCED from 00_scope.md R8: "b ≥ 1"). Log entry 4. -/
abbrev Config.timerUnitPositive (c : Config) : Prop := 1 ≤ c.timerTicksPerMs

/-- The records a core is built from (10_state.md R33: "A model must refuse to build a core from a record that fails"). -/
abbrev Config.accepted (c : Config) : Prop := c.wellFormed ∧ c.timerUnitPositive

/-- A micro-word's `OP` is no reserved one (30_encoding.md R92 (a)). -/
abbrev opAssigned (w : MicroWord) : Prop := (opField w).toNat ≤ 8

/-- A micro-word's `TGT` is 0 unless its `OP` is TIMECHK's or DELAY's (30_encoding.md R88, R92 (b)). -/
abbrev tgtUnreserved (w : MicroWord) : Prop := opField w ≠ 1 → opField w ≠ 8 → tgtField w = 0

/-- A micro-word with no reserved field (30_encoding.md R88, R92). -/
abbrev wordWellFormed (w : MicroWord) : Prop := opAssigned w ∧ tgtUnreserved w

end Sys2Proof
end

