-- ==== Sys2Proof/Machine/Ops.lean ====
section
/-! DEFINITION. The named operations on the state: events, the advance of `UPC`, taking a fault (spec/60_exceptions.md R222),
reset (spec/70_reset_and_hazards.md R250), the frame buffer (spec/20_memory.md R64), and one interaction with each external
agent (spec/00_scope.md R10). An interaction is a pair of functions: what the agent answers, and the state after the answer
is taken. -/

namespace Sys2Proof.Machine

/-- `emit E` (10_state.md R46). -/
def emit (e : Event) (s : State) : State := { s with history := s.history ++ [e] }

/-- `upc <- UPC + 1` (10_state.md R28). Past index 15 the spec states no value: a free one. Log entry 27. -/
def advance (s : State) : State :=
  if s.upc = 15 then
    { s with upc := Config.freeIndexPastEnd s.env.freeIndex, env := { s.env with freeIndex := s.env.freeIndex + 1 } }
  else { s with upc := s.upc + 1 }

/-- `upc <- zext_4(TGT)`: not scaled, not added (30_encoding.md R91). -/
def jump (t : MicroIndex) (s : State) : State := { s with upc := t }

/-- The numeric code of a fault (60_exceptions.md R221). -/
def faultNumber : FaultCode → BitVec 3
  | .fatalInit => 1
  | .fatalTx   => 2
  | .illegalOp => 3
  | .ownership => 4

/-- FATAL_TX clears the transmitter link; no other fault does (60_exceptions.md R222). -/
def dropLink (c : FaultCode) (s : State) : State :=
  match c with
  | .fatalTx => { s with txBusy := false, handleOwned := false, token := none }
  | .fatalInit | .illegalOp | .ownership => s

/-- `raise Fault(code)`: fault entry (60_exceptions.md R222). `UPC` is left unchanged. -/
def raise (c : FaultCode) (s : State) : State :=
  emit (.fault c s.upc) (dropLink c { s with fault := faultNumber c, faultUpc := s.upc })

/-- Reset by the environment, from any state (70_reset_and_hazards.md R250, 10_state.md R41). -/
def takeReset (s : State) : State := State.resetWith s.cfg s.rom s.env.afterReset s.history

/-- A frame register in which every entry holds its value of `f`. -/
def storedFrame (f : Frame) : Vector (Option EntryWord) 25 := ⟨⟨f.toList.map some⟩, by simp⟩

/-- `FRAME[i] <- f[i]` for all 25 entries in one step (20_memory.md R64 (a)). -/
def writeFrame (f : Frame) (s : State) : State := { s with frame := storedFrame f }

/-- The values of all entries of a frame register, when every entry holds one (10_state.md R45). -/
def frameValues (v : Vector (Option EntryWord) 25) : Option Frame :=
  if h : ∀ i : Fin 25, v[i].isSome then some (Vector.ofFn fun i : Fin 25 => v[i].get (h i)) else none

/-- The whole of `FRAME`, as TX takes it (42_sequencer.md R190). -/
def readFrame (s : State) : Option Frame := frameValues s.frame

/-- What INIT passes to the transmitter (42_sequencer.md R176). -/
def txConfigOf (c : Config) : TxConfig where
  line    := c.outLine
  tickMhz := c.clkMhz
  idle    := .low

/-- The answer of `Tx.acquire` (42_sequencer.md R173): any (93 I12). Log entry 8. -/
def acquireAnswer (s : State) : AcquireAnswer :=
  s.env.acquires.headD (Config.freeAcquire s.env.freeIndex (txConfigOf s.cfg))

/-- After `Tx.acquire`: `EvAcquire`, and on OK the transmitter holds its configuration (42_sequencer.md R176). -/
def afterAcquire (s : State) : State :=
  emit (.acquire (acquireAnswer s))
    { s with env := { s.env with
        acquires := s.env.acquires.tail, freeIndex := s.env.freeIndex + 1,
        txConfig := if acquireAnswer s = .ok then some (txConfigOf s.cfg) else s.env.txConfig } }

/-- The answer of `Timer.now()`: any instant at least every earlier one since reset (42_sequencer.md R171). Log entry 9. -/
def timerAnswer (s : State) : Nat :=
  max s.env.timerFloor (s.env.instants.headD (Config.freeInstant s.env.freeIndex))

/-- After `Timer.now()`: `EvTime`, and the timer's bound is the answer (42_sequencer.md R171). -/
def afterTimer (s : State) : State :=
  emit (.time (timerAnswer s))
    { s with env := { s.env with
        instants := s.env.instants.tail, freeIndex := s.env.freeIndex + 1, timerFloor := timerAnswer s } }

/-- The answer of `Entropy.next()`: any word of `P_RAND_WIDTH` bits (41_fade_controller.md R142). Log entry 10. -/
def entropyAnswer (s : State) : Nat := s.env.words.headD (Config.freeWord s.env.freeIndex) % 2 ^ s.cfg.randWidth

/-- After `Entropy.next()`: `EvDraw` (41_fade_controller.md R142). -/
def afterEntropy (s : State) : State :=
  emit (.draw (entropyAnswer s))
    { s with env := { s.env with words := s.env.words.tail, freeIndex := s.env.freeIndex + 1 } }

/-- The answer of `Tx.transmit(f)`: a token or an error, any (92 D18). Log entry 11. -/
def transmitAnswer (f : Frame) (s : State) : TransmitAnswer :=
  s.env.transmits.headD (Config.freeTransmit s.env.freeIndex f)

/-- The transmitter after a frame is offered: it emits the frame when it gave a token (42_sequencer.md R174). -/
def transmitterAfter (f : Frame) (a : TransmitAnswer) (t : Transmitter) : Transmitter :=
  match a with
  | .token k => .emitting k f
  | .err     => t

/-- After `Tx.transmit(f)`; `EvTransmit` is recorded before the answer (42_sequencer.md R190). -/
def afterTransmit (f : Frame) (s : State) : State :=
  let e := { s.env with
    transmits := s.env.transmits.tail, freeIndex := s.env.freeIndex + 1,
    transmitter := transmitterAfter f (transmitAnswer f s) s.env.transmitter }
  { emit (.transmit f) s with env := e }

/-- The transmitter's answer to the token the core holds, when it has given one (42_sequencer.md R174, R195). -/
def waitAnswer (s : State) : Option WaitAnswer :=
  match s.env.transmitter with
  | .answered k a => if s.token = some k then some a else none
  | .idle | .emitting _ _ => none

/-- After `Tx.wait`: the answer is consumed, and none is given twice (42_sequencer.md R174). -/
def afterWait (s : State) : State := { s with env := { s.env with transmitter := .idle } }

/-- The transmitter's own step: it answers the pending token (42_sequencer.md R174). With nothing pending it has no step and
nothing changes. Log entry 17. -/
def transmitterTurn (a : WaitAnswer) (s : State) : State :=
  match s.env.transmitter with
  | .emitting k _ => { s with env := { s.env with transmitter := .answered k a } }
  | .idle | .answered _ _ => s

/-- Building a core: a record that fails the checks is refused (10_state.md R33, 70_reset_and_hazards.md R252). The ROM and
the agents are parameters (10_state.md R44). -/
def build (c : Config) (rom : Rom) (e : Env) : Host.Outcome State Fault Refusal :=
  if c.accepted then .next (State.resetWith c rom e []) else .refused .illFormedConfig

end Sys2Proof.Machine
end

