-- ==== Sys2Proof/Machine/FadeController.lean ====
section
/-! DEFINITION. The Fade Controller family: FADE, with its retarget and nudge phases (spec/41_fade_controller.md). -/

namespace Sys2Proof.Machine

/-- `P_RAND_MOD` = 255: the reduction is a remainder, not a mask (41_fade_controller.md R143, R144; 90 C1). -/
def fadeModulus : Nat := 255

/-- A target channel from an entropy word: `w mod 255`, so never 255 (41_fade_controller.md R143, R144). -/
def reduceWord (w : Nat) : Channel := BitVec.ofNat 8 (w % fadeModulus)

/-- One lane of the nudge: one unit toward the target (41_fade_controller.md R145, R146). -/
def nudgeChannel (c t : Channel) : Channel := if c < t then c + 1 else if t < c then c - 1 else c

/-- The nudge of all three lanes, each on its own (41_fade_controller.md R145, R146). -/
def nudge (c t : Color) : Color where
  r := nudgeChannel c.r t.r
  g := nudgeChannel c.g t.g
  b := nudgeChannel c.b t.b

/-- The target of three words, in the order red, green, blue (41_fade_controller.md R143). -/
def drawnTarget (wR wG wB : Nat) : Color where
  r := reduceWord wR
  g := reduceWord wG
  b := reduceWord wB

/-- The pure function `step(c, t, draws)`, the draws consumed only when `EQ(c, t)` (41_fade_controller.md R151). -/
def fadeStep (c t : Color) (wR wG wB : Nat) : Color × Color :=
  let t' := if colorEq c t then drawnTarget wR wG wB else t
  (nudge c t', t')

/-- The retarget phase: three draws when the colours are equal, else none (41_fade_controller.md R143, R148). -/
def retarget (s : State) : State :=
  if colorEq s.cur s.tgt then
    let sR := afterEntropy s
    let sG := afterEntropy sR
    { afterEntropy sG with tgt := drawnTarget (entropyAnswer s) (entropyAnswer sR) (entropyAnswer sG) }
  else s

/-- The nudge phase, toward the target the retarget phase left (41_fade_controller.md R145). -/
def nudgeState (s : State) : State := { s with cur := nudge s.cur s.tgt }

/-- FADE: one fade step (41_fade_controller.md R150). -/
def execFade (s : State) : Host.Outcome State Fault Refusal := .next (advance (nudgeState (retarget s)))

end Sys2Proof.Machine
end

