-- ==== Sys2Proof/Machine/PulseEncoder.lean ====
section
/-! DEFINITION. The Pulse Encoder family: PACK and ENCODE (spec/40_pulse_encoder.md). -/

namespace Sys2Proof.Machine

/-- PACK: `PACKED <- pack(CUR)` (40_pulse_encoder.md R119). -/
def execPack (s : State) : Host.Outcome State Fault Refusal :=
  .next (advance { s with packed := pack s.cur })

/-- ENCODE: serialise `PACKED` into `FRAME`; OWNERSHIP while a transmission is in flight (40_pulse_encoder.md R120,
60_exceptions.md R227 (c)). -/
def execEncode (s : State) : Host.Outcome State Fault Refusal :=
  .next (if s.txBusy then raise .ownership s else advance (writeFrame (encodeFrame s.cfg s.packed) s))

end Sys2Proof.Machine
end

