-- ==== Sys2Proof/Machine/Sequencer.lean ====
section
/-! DEFINITION. The Sequencer family: INIT, TIMECHK, STAMP, TX, WAIT, DELAY (spec/42_sequencer.md). -/

namespace Sys2Proof.Machine

/-- `LAST_TS <- Timer.now()`, then `UPC + 1`: the tail INIT and STAMP share (42_sequencer.md R176, R185). -/
def stampTime (s : State) : State := advance { afterTimer s with lastTs := some (timerAnswer s) }

/-- INIT: acquire the transmitter and start the timestamp; FATAL_INIT when the acquisition fails (42_sequencer.md R176). -/
def execInit (s : State) : Host.Outcome State Fault Refusal :=
  .next (match acquireAnswer s with
    | .err => raise .fatalInit (afterAcquire s)
    | .ok  => stampTime { afterAcquire s with handleOwned := true })

/-- TIMECHK with a `LAST_TS` that holds a value: set `THR`, and go on or to `TGT` (42_sequencer.md R180). -/
def checkThreshold (tgt : MicroIndex) (last : Nat) (s : State) : State :=
  let reached := thresholdReached s.cfg last (timerAnswer s)
  let s' := { afterTimer s with thr := reached }
  if reached then advance s' else jump tgt s'

/-- TIMECHK (42_sequencer.md R180). Without a value in `LAST_TS` it stops at the model level (10_state.md R45). -/
def execTimechk (tgt : MicroIndex) (s : State) : Host.Outcome State Fault Refusal :=
  match s.lastTs with
  | none      => .fault .noValueLastTs
  | some last => .next (checkThreshold tgt last s)

/-- STAMP: a fresh timer read into `LAST_TS` (42_sequencer.md R185, R186). -/
def execStamp (s : State) : Host.Outcome State Fault Refusal := .next (stampTime s)

/-- TX with the handle held and a whole frame: offer it; a token starts the transmission, an error is FATAL_TX
(42_sequencer.md R190). -/
def issueFrame (f : Frame) (s : State) : State :=
  match transmitAnswer f s with
  | .err     => raise .fatalTx (emit .txError (afterTransmit f s))
  | .token k => advance { afterTransmit f s with token := some k, txBusy := true, handleOwned := false }

/-- TX (42_sequencer.md R190): OWNERSHIP first (60_exceptions.md R227 (a), R232). With an entry of `FRAME` without a value it
stops at the model level (10_state.md R45). -/
def execTx (s : State) : Host.Outcome State Fault Refusal :=
  if txForbidden s then .next (raise .ownership s)
  else match readFrame s with
    | none   => .fault .noValueFrame
    | some f => .next (issueFrame f s)

/-- WAIT once the transmitter has answered (42_sequencer.md R195). -/
def completeWait (a : WaitAnswer) (s : State) : State :=
  match a with
  | .err  => raise .fatalTx (emit .txError (afterWait s))
  | .done => advance { emit .done (afterWait s) with txBusy := false, handleOwned := true, token := none }

/-- WAIT (42_sequencer.md R195): OWNERSHIP with nothing in flight (60_exceptions.md R227 (b)). Until the transmitter has
answered the Sequencer holds and nothing changes (R196). Log entry 15. -/
def execWait (s : State) : Host.Outcome State Fault Refusal :=
  .next (if s.txBusy then
      match waitAnswer s with
      | none   => s
      | some a => completeWait a s
    else raise .ownership s)

/-- DELAY: its hold is not modelled, so the step is enabled at once (42_sequencer.md R200, 92 D12). Log entry 16. -/
def execDelay (tgt : MicroIndex) (s : State) : Host.Outcome State Fault Refusal := .next (jump tgt (emit .delay s))

end Sys2Proof.Machine
end

