-- ==== Sys2Proof/Machine/Dispatch.lean ====
section
/-! DEFINITION. One arm for each micro-op: performing the rule of the decoded micro-op (spec/42_sequencer.md R170,
spec/30_encoding.md R89). -/

namespace Sys2Proof.Machine

def exec (i : Instr) (s : State) : Host.Outcome State Fault Refusal :=
  match i with
  | .init => Sys2Proof.Machine.execInit s
  | .timechk tgt => Sys2Proof.Machine.execTimechk tgt s
  | .fade => Sys2Proof.Machine.execFade s
  | .stamp => Sys2Proof.Machine.execStamp s
  | .pack => Sys2Proof.Machine.execPack s
  | .encode => Sys2Proof.Machine.execEncode s
  | .tx => Sys2Proof.Machine.execTx s
  | .wait => Sys2Proof.Machine.execWait s
  | .delay tgt => Sys2Proof.Machine.execDelay tgt s

end Sys2Proof.Machine
end

