-- ==== Sys2Proof/Machine/Agents.lean ====
section
/-! DEFINITION. The agents' turns (spec/00_scope.md R4): fetch and the Sequencer's step (spec/42_sequencer.md R170), its hold
at WAIT (R195, R196), and whose turn is next. -/

namespace Sys2Proof.Machine

/-- `w = ROM[UPC]` (42_sequencer.md R170, 30_encoding.md R90). -/
def fetch (s : State) : MicroWord := s.rom[s.upc.toNat]'s.upc.isLt

/-- The Sequencer's step (42_sequencer.md R170). HALTED has none; a reserved `OP` raises ILLEGAL_OP before any effect of the
word (60_exceptions.md R226). -/
def sequencerTurn (s : State) : Host.Outcome State Fault Refusal :=
  if halted s then .fault .halted
  else match decode (fetch s) with
    | .illegal _ => .next (raise .illegalOp s)
    | .instr i   => exec i s

/-- The Sequencer holds at WAIT: a transmission is in flight and not answered (42_sequencer.md R195, R196). -/
def holding (s : State) : Bool :=
  !halted s && decode (fetch s) == .instr .wait && s.txBusy && waitAnswer s == none

/-- Whose turn is next: the scripted one; with none scripted the Sequencer's, but while it holds the transmitter may complete,
a free choice (42_sequencer.md R174, R196; 93 I10, I11). Log entries 12, 14. -/
def nextTurn (s : State) : Turn :=
  match s.env.turns with
  | t :: _ => t
  | []     =>
    if holding s then
      match Config.freeCompletion s.env.freeIndex with
      | some a => .transmitter a
      | none   => .sequencer
    else .sequencer

/-- The state once the turn is chosen: the script's head, or the free choice, is used up. -/
def afterChoice (s : State) : State :=
  match s.env.turns with
  | _ :: rest => { s with env := { s.env with turns := rest } }
  | []        => if holding s then { s with env := { s.env with freeIndex := s.env.freeIndex + 1 } } else s

/-- One step of the agent whose turn it is (00_scope.md R4). Reset is taken between steps, from any state
(60_exceptions.md R232, 70_reset_and_hazards.md R250). -/
def takeTurn (t : Turn) (s : State) : Host.Outcome State Fault Refusal :=
  match t with
  | .sequencer     => sequencerTurn s
  | .transmitter a => .next (transmitterTurn a s)
  | .reset         => .next (takeReset s)

/-- One step of the system. A core is never built from a record that fails the checks (10_state.md R33), so a state with one
has no step. -/
def systemStep (s : State) : Host.Outcome State Fault Refusal :=
  if s.cfg.accepted then takeTurn (nextTurn s) (afterChoice s) else .refused .illFormedConfig

/-- The ROM with the word of a table row at the index fetched next, and the Sequencer's turn next. Log entry 24. -/
def placeWord (s : State) (nbits w : Nat) : State :=
  { s with
      rom := s.rom.set s.upc.toNat (BitVec.ofNat 8 (w % 2 ^ nbits)) s.upc.isLt
      env := { s.env with turns := .sequencer :: s.env.turns } }

end Sys2Proof.Machine
end

