-- ==== Sys2Proof/Machine/Step.lean ====
section
/-! DEFINITION. The step of the machine: one step of one agent (spec/00_scope.md R4, spec/42_sequencer.md R170). -/

namespace Sys2Proof.Machine

def step (s : State) : Host.Outcome State Fault Refusal := systemStep s

/-- `s` with an instruction's word where the next step fetches it (30_encoding.md R90, 10_state.md R44). -/
def State.withFetchWord (s : State) (nbits w : Nat) : State := placeWord s nbits w

end Sys2Proof.Machine
end

