-- ==== Sys2Proof/Machine/Waveform.lean ====
section
/-! DEFINITION. The meaning the core assigns a frame on the output line: the waveform contract the transmitter is assumed to
implement (spec/42_sequencer.md R175), with its tick counts (spec/40_pulse_encoder.md R114, R123). -/

namespace Sys2Proof.Machine

/-- The line holds a level for a number of ticks (42_sequencer.md R175). -/
structure Phase where
  level : Level
  ticks : Nat
  deriving DecidableEq, Repr

/-- The phases of a list of entries: each holds `LVL0` for `DUR0` ticks, then `LVL1` for `DUR1`, and the first entry with
`DUR0 = 0` ends them (42_sequencer.md R175). DESIGN CHOICE, unsafe: a list with no such entry ends after its last one; the rule
names no entry past 24, and no frame that ENCODE writes is such a list. Log entry 31. -/
def phasesOf : List EntryWord → List Phase
  | []        => []
  | w :: rest =>
    if dur0 w = 0 then []
    else ⟨lvl0 w, (dur0 w).toNat⟩ :: ⟨lvl1 w, (dur1 w).toNat⟩ :: phasesOf rest

/-- The waveform of a frame, up to its end of frame (42_sequencer.md R175). -/
def waveform (f : Frame) : List Phase := phasesOf f.toList

/-- The level the line goes to at the end of a frame and holds until the next transmission (42_sequencer.md R175; PRESUMED,
93 K2). Log entry 21. -/
def idleLevel : Level := .low

/-- Ticks a waveform takes before it idles (40_pulse_encoder.md R123). -/
def waveformTicks (ps : List Phase) : Nat := (ps.map Phase.ticks).sum

end Sys2Proof.Machine
end

