-- ==== Sys2Proof/Safety.lean ====
section
/-! DEFINITION. What counts as a safe state and a safe run, in the terms the statements use: the invariants the spec derives
(spec/10_state.md R24, R29, R39, R40; spec/42_sequencer.md R172; spec/20_memory.md R64; spec/60_exceptions.md R221) and the
observation (spec/10_state.md R47). -/

namespace Sys2Proof.Safety

open Sys2Proof.Machine

/-- The frames the history says were handed to the transmitter, in order: what the LED receives (10_state.md R47). -/
def transmittedFrames (h : List Event) : List Frame :=
  h.filterMap fun e => match e with
    | .transmit f => some f
    | _ => none

/-- The number of entropy draws in a history (41_fade_controller.md R148). -/
def drawCount (h : List Event) : Nat :=
  h.countP fun e => match e with
    | .draw _ => true
    | _ => false

/-- The number of resets in a history (10_state.md R46). -/
def resetCount (h : List Event) : Nat := h.count .reset

/-- Every channel of a colour is at most 254 (10_state.md R24). -/
def channelsAtMost254 (c : Color) : Prop := c.r ≤ 254 ∧ c.g ≤ 254 ∧ c.b ≤ 254

/-- Both reset colours, the current colour and the target have every channel at most 254 (10_state.md R24). -/
structure ColorRange (s : State) : Prop where
  initCurrent : channelsAtMost254 (logicalColor s.cfg.initCurrent)
  initTarget  : channelsAtMost254 (logicalColor s.cfg.initTarget)
  current     : channelsAtMost254 s.cur
  target      : channelsAtMost254 s.tgt

/-- `LAST_TS`, where it holds a value, is an earlier answer of the timer: at most its greatest one (42_sequencer.md R172). -/
def TimestampAnswered (s : State) : Prop := ∀ t, s.lastTs = some t → t ≤ s.env.timerFloor

/-- `FAULT` never holds a reserved code (10_state.md R35, 60_exceptions.md R221). -/
abbrev FaultCodeLegal (s : State) : Prop := s.fault.toNat ≤ 4

/-- While the transmitter emits a frame the core is busy with that transmission or halted by a fatal one, and as long as it is
busy `FRAME` is what it was at TX (20_memory.md R64, 70_reset_and_hazards.md R260). -/
def FrameInFlightKept (s : State) : Prop :=
  ∀ k f, s.env.transmitter = .emitting k f → s.txBusy = true → readFrame s = some f

/-- The transmitter has the token: its answer is still to come, or is given (42_sequencer.md R174). -/
def tokenWithTransmitter (s : State) (k : Token) : Prop :=
  (∃ f, s.env.transmitter = .emitting k f ∧ readFrame s = some f) ∨ ∃ a, s.env.transmitter = .answered k a

/-- Ownership (10_state.md R40): the handle is held and nothing is in flight, or the reverse, the latter exactly at WAIT. -/
structure Ownership (s : State) : Prop where
  held     : s.upc ≠ 7 → s.handleOwned = true ∧ s.txBusy = false ∧ s.token = none
  inFlight : s.upc = 7 → s.handleOwned = false ∧ s.txBusy = true ∧ ∃ k, s.token = some k ∧ tokenWithTransmitter s k

/-- What holds in every state the fixed micro-program reaches (10_state.md R29, R39, R40, R45; 42_sequencer.md R172;
60_exceptions.md R221). -/
structure MicroProgramInv (s : State) : Prop where
  /-- The ROM is that of 30_encoding.md R90. -/
  fixedRom : s.rom = microProgram
  /-- Only indices 0 to 8 are reached (R29). -/
  index    : s.upc.toNat ≤ 8
  /-- Codes 3 and 4 do not occur, and 5 to 7 never do (60_exceptions.md R221). -/
  code     : s.fault = 0 ∨ s.fault = 1 ∨ s.fault = 2
  /-- Before INIT the link is as reset leaves it (R41). -/
  start    : s.fault = 0 → s.upc = 0 → s.handleOwned = false ∧ s.txBusy = false ∧ s.token = none
  /-- R40, for indices 1 to 8. -/
  owner    : s.fault = 0 → s.upc ≠ 0 → Ownership s
  /-- `LAST_TS` holds an earlier answer of the timer once INIT has completed (R45, 42 R172). -/
  stamped  : s.fault = 0 → s.upc ≠ 0 → ∃ t, s.lastTs = some t ∧ t ≤ s.env.timerFloor
  /-- From ENCODE to the end of the iteration `FRAME` is the frame of `PACKED` (R45, 40 R120). -/
  framed   : s.fault = 0 → 6 ≤ s.upc.toNat → readFrame s = some (encodeFrame s.cfg s.packed)
  /-- `PACKED = pack(CUR)` but between FADE and PACK (R39, 70 R255). -/
  packed   : s.fault = 0 → s.upc ≠ 3 → s.upc ≠ 4 → s.packed = pack s.cur

/-- `t` is a state after `upc <- UPC + 1` at the end of a micro-op that began at index `u` and leaves the agents at `e`
(10_state.md R28). At index 15 the spec states no next index: it is a free value, and only the counter of free values moves
beside it (log entry 27). -/
def AdvancedFrom (u : MicroIndex) (e : Env) (t : State) : Prop :=
  (u ≠ 15 → t.upc = u + 1 ∧ t.env = e) ∧ t.env = { e with freeIndex := t.env.freeIndex }

/-- `t` is `s` after fault entry with a code that keeps the transmitter link (60_exceptions.md R222). -/
def FaultedFrom (c : FaultCode) (s t : State) : Prop :=
  t = { s with fault := t.fault, faultUpc := s.upc, history := s.history ++ [.fault c s.upc] } ∧
    (c = .fatalInit → t.fault = 1) ∧ (c = .illegalOp → t.fault = 3) ∧ (c = .ownership → t.fault = 4) ∧ c ≠ .fatalTx

/-- `t` is a state that a fault raised from `s` leaves: halted, with the code and the index of `s`, the fault recorded as the last
of the new events (60_exceptions.md R222). -/
def RaisedFrom (s t : State) : Prop :=
  t.fault ≠ 0 ∧ t.faultUpc = s.upc ∧
    ∃ before c, t.history = s.history ++ before ++ [.fault c s.upc] ∧ t.fault = faultNumber c

/-- `k` fade steps one after the other, each FADE from the state the one before left (41_fade_controller.md R147). -/
def fadeSteps : Nat → State → Host.Outcome State Fault Refusal
  | 0,     s => .next s
  | k + 1, s =>
    match fadeSteps k s with
    | .next t    => exec .fade t
    | .fault r   => .fault r
    | .refused r => .refused r

/-- The value of a decoded data entry (40_pulse_encoder.md R122). -/
def entryValue : EntryKind → Nat
  | .bit true  => 1
  | .bit false => 0
  | .term      => 0
  | .invalid   => 0

/-- The distance of two channels (41_fade_controller.md R147). -/
def channelDistance (a b : Channel) : Nat := Int.natAbs ((a.toNat : Int) - (b.toNat : Int))

end Sys2Proof.Safety
end

