-- ==== Sys2Proof/Certificates/Slice0/Obligations.lean ====
section
/-! DEFINITION. The statements for the provers, family by family: encodings and words, the nine micro-ops, the agents and the
step, and the invariants (spec/ rules as cited at each). -/

open Sys2Proof Sys2Proof.Machine Sys2Proof.Safety

/-! ### Encodings, words, ticks -/

/-- 30_encoding.md R88, R89, R95: decoding an encoded micro-op gives it back, and every word with no reserved field is the
encoding of what it decodes to. -/
def Obligations.DecodeInvertsEncode : Prop :=
  (∀ i : Instr, decode (encode i) = .instr i) ∧
  ∀ w : MicroWord, wordWellFormed w → ∃ i, decode w = .instr i ∧ encode i = w

/-- 30_encoding.md R95: the decoder, case by case on `OP`, and the listing of the ROM. -/
def Obligations.DecoderFollowsOpcodeMap : Prop :=
  (∀ w : MicroWord,
    (w.extractLsb' 0 4 = 0x0 → decode w = .instr .init) ∧
    (w.extractLsb' 0 4 = 0x1 → decode w = .instr (.timechk (w.extractLsb' 4 4))) ∧
    (w.extractLsb' 0 4 = 0x2 → decode w = .instr .fade) ∧
    (w.extractLsb' 0 4 = 0x3 → decode w = .instr .stamp) ∧
    (w.extractLsb' 0 4 = 0x4 → decode w = .instr .pack) ∧
    (w.extractLsb' 0 4 = 0x5 → decode w = .instr .encode) ∧
    (w.extractLsb' 0 4 = 0x6 → decode w = .instr .tx) ∧
    (w.extractLsb' 0 4 = 0x7 → decode w = .instr .wait) ∧
    (w.extractLsb' 0 4 = 0x8 → decode w = .instr (.delay (w.extractLsb' 4 4))) ∧
    (9 ≤ (w.extractLsb' 0 4).toNat → decode w = .illegal (w.extractLsb' 0 4))) ∧
  [microProgram[0], microProgram[1], microProgram[2], microProgram[3], microProgram[4], microProgram[5], microProgram[6],
      microProgram[7], microProgram[8]].map decode =
    [.instr .init, .instr (.timechk 5), .instr .fade, .instr .stamp, .instr .pack, .instr .encode, .instr .tx, .instr .wait,
      .instr (.delay 1)] ∧
  [Instr.init, .timechk 5, .fade, .stamp, .pack, .encode, .tx, .wait, .delay 1].map listing =
    ["INIT", "TIMECHK 5", "FADE", "STAMP", "PACK", "ENCODE", "TX", "WAIT", "DELAY 1"]

/-- 95_test_vectors.md section 2.11: words written out from the encoding, and what they decode to. -/
def Obligations.SampleWordsDecode : Prop :=
  decode 0x00 = .instr .init ∧ decode 0x51 = .instr (.timechk 5) ∧ decode 0x02 = .instr .fade ∧
  decode 0x18 = .instr (.delay 1) ∧ decode 0x08 = .instr (.delay 0) ∧ decode 0x32 = .instr .fade ∧
  decode 0x09 = .illegal 0x9 ∧ decode 0x0F = .illegal 0xF ∧ decode 0xFF = .illegal 0xF ∧
  decodeTableWord 8 0x04 = some .pack ∧ decodeTableWord 8 0x97 = some .wait ∧ decodeTableWord 8 0x0A = none

/-- 30_encoding.md R82, R83 and 40_pulse_encoder.md R110: the two colour layouts, and packing as a bijection. -/
def Obligations.PackAndUnpackAreInverse : Prop :=
  (∀ c : Color, unpack (pack c) = c ∧
    (pack c).extractLsb' 16 8 = c.g ∧ (pack c).extractLsb' 8 8 = c.r ∧ (pack c).extractLsb' 0 8 = c.b) ∧
  (∀ v : Packed, pack (unpack v) = v ∧
    unpack v = ⟨v.extractLsb' 8 8, v.extractLsb' 16 8, v.extractLsb' 0 8⟩) ∧
  ∀ c d : Color, pack c = pack d → c = d

/-- 40_pulse_encoder.md R112: rounding to the nearest tick with halves up, one period for both profiles at every clock, and the
counts at 80 MHz. -/
def Obligations.ExactProfilesTakeOnePeriod : Prop :=
  (∀ (c : Config) (d : Nat), 1000 * roundTicks c d ≤ d * c.clkMhz.toNat + 500 ∧
    d * c.clkMhz.toNat + 500 < 1000 * (roundTicks c d + 1)) ∧
  (∀ c : Config, c.tickMode = .exact → c.highTimesOrdered →
    (ticks c).t1h = roundTicks c c.t1h.toNat ∧ (ticks c).t0h = roundTicks c c.t0h.toNat ∧
    (ticks c).t1h + (ticks c).t1l = roundTicks c c.tPeriod.toNat ∧
    (ticks c).t0h + (ticks c).t0l = roundTicks c c.tPeriod.toNat) ∧
  ticks Config.thisHardware = ⟨51, 49, 26, 74⟩ ∧ roundTicks Config.thisHardware 1250 = 100 ∧
  roundTicks Config.thisHardware 610 = 49 ∧ roundTicks Config.thisHardware 930 = 74

/-- 40_pulse_encoder.md R113: the truncating conversion, and its counts at 80 MHz, where a bit takes 103 ticks of 12.5 ns. -/
def Obligations.LegacyDividesByTruncatedTick : Prop :=
  (∀ c : Config, c.tickMode = .legacy →
    ticks c =
      ⟨c.t1h.toNat / (1000 / c.clkMhz.toNat), (c.tPeriod.toNat - c.t1h.toNat) / (1000 / c.clkMhz.toNat),
       c.t0h.toNat / (1000 / c.clkMhz.toNat), (c.tPeriod.toNat - c.t0h.toNat) / (1000 / c.clkMhz.toNat)⟩) ∧
  ticks { Config.thisHardware with tickMode := .legacy } = ⟨53, 50, 26, 77⟩ ∧ tickNs Config.thisHardware = 12 ∧
  (53 + 50) * 1000 * 10 = 12875 * 80 ∧ (26 + 77) * 1000 * 10 = 12875 * 80

/-- 40_pulse_encoder.md R114: converted back, both EXACT profiles take 1250 ns and no LEGACY profile does; in each mode the
two profiles take the same number of ticks. Nanoseconds are `ticks * 1000 / CLK_MHZ`, so the equation is multiplied out. -/
def Obligations.PeriodHoldsInExactModeOnly : Prop :=
  let e := ticks Config.thisHardware
  let l := ticks { Config.thisHardware with tickMode := .legacy }
  (e.t1h + e.t1l) * 1000 = 1250 * 80 ∧ (e.t0h + e.t0l) * 1000 = 1250 * 80 ∧
  (l.t1h + l.t1l) * 1000 * 10 = 12875 * 80 ∧ (l.t1h + l.t1l) * 1000 ≠ 1250 * 80 ∧
  (l.t0h + l.t0l) * 1000 * 10 = 12875 * 80 ∧ (l.t0h + l.t0l) * 1000 ≠ 1250 * 80 ∧
  (l.t1h + l.t1l) * tickNs Config.thisHardware = 1236 ∧
  e.t1h + e.t1l = 100 ∧ e.t0h + e.t0l = 100 ∧ l.t1h + l.t1l = 103 ∧ l.t0h + l.t0l = 103

/-- 30_encoding.md R86: the three constant words, as formulas and at this hardware's configuration in both modes. -/
def Obligations.ConstantWords : Prop :=
  (∀ c : Config, c.wellFormed →
    (wordBit1 c).toNat = (ticks c).t1l * 2 ^ 16 + 0x8000 + (ticks c).t1h ∧
    (wordBit0 c).toNat = (ticks c).t0l * 2 ^ 16 + 0x8000 + (ticks c).t0h) ∧
  wordTerm = 0x00000000 ∧
  wordBit1 Config.thisHardware = 0x00318033 ∧ wordBit0 Config.thisHardware = 0x004A801A ∧
  wordBit1 { Config.thisHardware with tickMode := .legacy } = 0x00328035 ∧
  wordBit0 { Config.thisHardware with tickMode := .legacy } = 0x004D801A

/-- 40_pulse_encoder.md R115, R116, R118: each data entry is the profile of its source bit, entry 24 is the terminator, and it
is the only entry with `DUR0 = 0`. -/
def Obligations.FrameEntriesFollowSourceBits : Prop :=
  ∀ (c : Config) (v : Packed), c.wellFormed →
    (∀ (i : Nat) (h : i < 24),
      ((v.getLsbD (23 - i) = true → (encodeFrame c v)[i]'(Nat.lt_succ_of_lt h) = wordBit1 c) ∧
       (v.getLsbD (23 - i) = false → (encodeFrame c v)[i]'(Nat.lt_succ_of_lt h) = wordBit0 c))) ∧
    (dur0 (wordBit1 c)).toNat = (ticks c).t1h ∧ (dur1 (wordBit1 c)).toNat = (ticks c).t1l ∧
    (dur0 (wordBit0 c)).toNat = (ticks c).t0h ∧ (dur1 (wordBit0 c)).toNat = (ticks c).t0l ∧
    (encodeFrame c v)[24] = 0x00000000 ∧
    ∀ i : Fin 25, dur0 (encodeFrame c v)[i] = 0 ↔ i = 24

/-- 30_encoding.md R85: the classes of the entry words of every frame. -/
def Obligations.EntryWordClasses : Prop :=
  ∀ (c : Config) (v : Packed), c.wellFormed →
    (∀ (i : Nat) (h : i < 24),
      let w := (encodeFrame c v)[i]'(Nat.lt_succ_of_lt h);
      lvl0 w = .high ∧ lvl1 w = .low ∧ 1 ≤ (dur0 w).toNat ∧ 1 ≤ (dur1 w).toNat) ∧
    (let w := (encodeFrame c v)[24];
      dur0 w = 0 ∧ dur1 w = 0 ∧ lvl0 w = .low ∧ lvl1 w = .low)

/-- 40_pulse_encoder.md R117: which channel bit each entry of a packed colour carries. -/
def Obligations.ChannelsInGreenRedBlueOrder : Prop :=
  ∀ (c : Config) (k : Color) (j : Nat) (h : j < 8),
    (encodeFrame c (pack k))[j]'(by omega) =
      (if k.g.getLsbD (7 - j) then wordBit1 c else wordBit0 c) ∧
    (encodeFrame c (pack k))[8 + j]'(by omega) =
      (if k.r.getLsbD (7 - j) then wordBit1 c else wordBit0 c) ∧
    (encodeFrame c (pack k))[16 + j]'(by omega) =
      (if k.b.getLsbD (7 - j) then wordBit1 c else wordBit0 c) ∧
    (encodeFrame c (pack k))[24] = wordTerm

/-- 40_pulse_encoder.md R122: a frame decodes to its packed colour, whatever the configuration. -/
def Obligations.FrameRoundTrip : Prop :=
  ∀ (c : Config) (v : Packed), c.wellFormed →
    (encodeFrame c v).toList.length = 25 ∧
    decodeEntry c (encodeFrame c v)[24] = .term ∧
    (∀ i : Fin 24, ∃ b, decodeEntry c ((encodeFrame c v)[i.val]'(Nat.lt_succ_of_lt i.isLt)) = .bit b) ∧
    v.toNat = ∑ i : Fin 24,
      entryValue (decodeEntry c ((encodeFrame c v)[i.val]'(Nat.lt_succ_of_lt i.isLt))) * 2 ^ (23 - i.val)

/-- 42_sequencer.md R175 with 40_pulse_encoder.md R115, R116: the waveform of a frame is 24 pulse pairs, most significant bit
first, and it takes 24 bit periods in EXACT mode. That the line then idles low is PRESUMED (log entry 21) and not stated. -/
def Obligations.FrameWaveform : Prop :=
  ∀ (c : Config) (v : Packed), c.wellFormed →
    waveform (encodeFrame c v) =
      (List.range 24).flatMap (fun i =>
        if v.getLsbD (23 - i) then [⟨.high, (ticks c).t1h⟩, ⟨.low, (ticks c).t1l⟩]
        else [⟨.high, (ticks c).t0h⟩, ⟨.low, (ticks c).t0l⟩]) ∧
    (c.tickMode = .exact → waveformTicks (waveform (encodeFrame c v)) = 24 * periodTicks c)

/-- 10_state.md R33: the six conditions, and no core is built from a record that fails one; with the timer unit of this
hardware one is built from every record that meets them. This hardware's record is well-formed in both tick modes. -/
def Obligations.IllFormedRecordRefused : Prop :=
  (∀ c : Config, c.wellFormed ↔
    1 ≤ c.clkMhz.toNat ∧
    (c.tickMode = .legacy → c.clkMhz.toNat ≤ 1000) ∧
    (0 < c.t0h.toNat ∧ c.t0h.toNat < c.t1h.toNat ∧ c.t1h.toNat < c.tPeriod.toNat) ∧
    (∀ n ∈ [(ticks c).t1h, (ticks c).t1l, (ticks c).t0h, (ticks c).t0l], 1 ≤ n ∧ n ≤ 32767) ∧
    (ticks c).t0h < (ticks c).t1h ∧
    (c.fadeThresholdMs = 20 ∧ c.elapsedBiasMs = 1 ∧ c.delayUs = 100 ∧ c.randMod = 255)) ∧
  (∀ (c : Config) (rom : Rom) (e : Env), ¬ c.wellFormed → build c rom e = .refused .illFormedConfig) ∧
  (∀ (c : Config) (rom : Rom) (e : Env), c.wellFormed → c.timerTicksPerMs = 1000 →
    build c rom e = .next (State.resetWith c rom e [])) ∧
  Config.thisHardware.wellFormed ∧ ({ Config.thisHardware with tickMode := .legacy } : Config).wellFormed

/-- The model's own reading of 10_state.md R33 (log entry 4): no core holds a record that fails the checks, so a state with one
has no step, whichever agent's turn it is. The check `P_TIMER_TICKS_PER_MS ≥ 1` is the model's too. -/
def Obligations.NoStepWithIllFormedRecord : Prop :=
  ∀ s : State, ((¬ s.cfg.wellFormed ∨ s.cfg.timerTicksPerMs = 0) → step s = .refused .illFormedConfig) ∧
    ∀ t, step s = .next t → s.cfg.wellFormed ∧ 1 ≤ s.cfg.timerTicksPerMs

/-! ### PACK, ENCODE -/

/-- 40_pulse_encoder.md R119. At index 15, where the rule's `UPC + 1` has no 4-bit value, the next index is free (log entry 27). -/
def Obligations.PackRecomputesPackedColour : Prop :=
  encode .pack = 0x04 ∧ microProgram[4] = 0x04 ∧
  ∀ s : State, ∃ t, exec .pack s = .next t ∧
    t.packed = s.cur.g ++ s.cur.r ++ s.cur.b ∧
    AdvancedFrom s.upc s.env t ∧
    t = { s with packed := t.packed, upc := t.upc, env := t.env }

/-- 40_pulse_encoder.md R120: all 25 entries, when no transmission is in flight; OWNERSHIP with nothing written when one is.
At index 15 the next index is free (log entry 27). -/
def Obligations.EncodeWritesWholeFrame : Prop :=
  encode .encode = 0x05 ∧ microProgram[5] = 0x05 ∧
  (∀ s : State, s.txBusy = false → ∃ t, exec .encode s = .next t ∧
    (∀ i : Fin 25, t.frame[i] =
      some (if i = 24 then 0x00000000 else if s.packed.getLsbD (23 - i.val) then wordBit1 s.cfg else wordBit0 s.cfg)) ∧
    AdvancedFrom s.upc s.env t ∧
    t = { s with frame := t.frame, upc := t.upc, env := t.env }) ∧
  ∀ s : State, s.txBusy = true → ∃ t, exec .encode s = .next t ∧ FaultedFrom .ownership s t

/-- 20_memory.md R65: PACK and ENCODE are idempotent; repeating either with unchanged inputs writes the same values. -/
def Obligations.PackAndEncodeIdempotent : Prop :=
  (∀ s t u : State, exec .pack s = .next t → exec .pack t = .next u → u.packed = t.packed) ∧
  ∀ s t u : State, s.txBusy = false → exec .encode s = .next t → exec .encode t = .next u →
    u.frame = t.frame ∧ u.fault = s.fault

/-! ### FADE -/

/-- 41_fade_controller.md R150 (with R143, R145): one fade step, on every colour pair. At index 15 the next index is free
(log entry 27). -/
def Obligations.FadeRetargetsThenNudges : Prop :=
  encode .fade = 0x02 ∧ microProgram[2] = 0x02 ∧
  ∀ s : State, ∃ t, exec .fade s = .next t ∧
    (s.cur ≠ s.tgt → t.tgt = s.tgt ∧ t.history = s.history ∧ AdvancedFrom s.upc s.env t) ∧
    (s.cur = s.tgt →
      t.tgt.r.toNat = entropyAnswer s % 255 ∧
      t.tgt.g.toNat = entropyAnswer (afterEntropy s) % 255 ∧
      t.tgt.b.toNat = entropyAnswer (afterEntropy (afterEntropy s)) % 255 ∧
      t.history = s.history ++ [.draw (entropyAnswer s), .draw (entropyAnswer (afterEntropy s)),
        .draw (entropyAnswer (afterEntropy (afterEntropy s)))] ∧
      AdvancedFrom s.upc (afterEntropy (afterEntropy (afterEntropy s))).env t) ∧
    (∀ x ∈ [Color.r, Color.g, Color.b],
      (x s.cur < x t.tgt → (x t.cur).toNat = (x s.cur).toNat + 1) ∧
      (x t.tgt < x s.cur → (x t.cur).toNat + 1 = (x s.cur).toNat) ∧
      (x s.cur = x t.tgt → x t.cur = x s.cur)) ∧
    t = { s with cur := t.cur, tgt := t.tgt, upc := t.upc, env := t.env, history := t.history }

/-- 41_fade_controller.md R148 for one step: no draw from unequal colours, exactly three from equal ones. -/
def Obligations.FadeDrawsNoneOrThree : Prop :=
  ∀ s t : State, exec .fade s = .next t →
    (s.cur ≠ s.tgt → drawCount t.history = drawCount s.history) ∧
    (s.cur = s.tgt → drawCount t.history = drawCount s.history + 3)

/-- 41_fade_controller.md R142, R144: a word of this hardware is one of 2^32, and a drawn target channel is never 255. -/
def Obligations.DrawnTargetNever255 : Prop :=
  ∀ s t : State, exec .fade s = .next t → s.cur = s.tgt →
    t.tgt.r ≠ 255 ∧ t.tgt.g ≠ 255 ∧ t.tgt.b ≠ 255 ∧ entropyAnswer s < 2 ^ s.cfg.randWidth ∧
    (∀ w, reduceWord (w + 255) = reduceWord w) ∧
    reduceWord 0x12345678 = 21 ∧ reduceWord 0x80000000 = 128 ∧ reduceWord 0xDEADBEEF = 59 ∧ reduceWord 0xFFFFFFFF = 0

/-- 41_fade_controller.md R149: a redraw of the current colour changes no channel, and the next fade step retargets again. -/
def Obligations.RedrawOfCurrentColourHolds : Prop :=
  ∀ s t : State, exec .fade s = .next t → s.cur = s.tgt → t.tgt = s.cur →
    t.cur = s.cur ∧ t.cur = t.tgt ∧
    ∃ u, exec .fade t = .next u ∧ drawCount u.history = drawCount t.history + 3

/-- 41_fade_controller.md R147: from a fade step that leaves target T, as long as every later step finds the colours unequal,
each channel moves monotonically by one unit a step and equals T's exactly from its distance on. -/
def Obligations.FadeConvergesLinearly : Prop :=
  ∀ (s : State) (j : Nat), 1 ≤ j →
    (∀ (i : Nat) (u : State), 1 ≤ i → i < j → fadeSteps i s = .next u → u.cur ≠ u.tgt) →
    ∃ t₁ t, fadeSteps 1 s = .next t₁ ∧ fadeSteps j s = .next t ∧ t.tgt = t₁.tgt ∧
      (∀ x ∈ [Color.r, Color.g, Color.b],
        (x t.cur = x t₁.tgt ↔ channelDistance (x t₁.tgt) (x s.cur) ≤ j) ∧
        channelDistance (x t₁.tgt) (x t.cur) = channelDistance (x t₁.tgt) (x s.cur) - j ∧
        (x s.cur ≤ 254 → x t₁.tgt ≤ 254 → channelDistance (x t₁.tgt) (x s.cur) ≤ 254) ∧
        ((x s.cur ≤ x t.cur ∧ x t.cur ≤ x t₁.tgt) ∨ (x t₁.tgt ≤ x t.cur ∧ x t.cur ≤ x s.cur))) ∧
      (t.cur = t₁.tgt ↔
        max (channelDistance t₁.tgt.r s.cur.r) (max (channelDistance t₁.tgt.g s.cur.g) (channelDistance t₁.tgt.b s.cur.b)) ≤ j)

/-- 10_state.md R24: whatever bounds hold a current channel and the target channel a micro-op leaves also hold the current
channel it leaves, so no increment or decrement leaves [0, 255]; a target channel it changes is at most 254. -/
def Obligations.CurrentChannelStaysWithinTargets : Prop :=
  ∀ (i : Instr) (s t : State), exec i s = .next t → ∀ x ∈ [Color.r, Color.g, Color.b],
    (∀ lo hi : Channel, lo ≤ x s.cur → x s.cur ≤ hi → lo ≤ x t.tgt → x t.tgt ≤ hi → lo ≤ x t.cur ∧ x t.cur ≤ hi) ∧
    (x t.tgt ≠ x s.tgt → x t.tgt ≤ 254) ∧
    channelDistance (x t.cur) (x s.cur) ≤ 1

/-! ### INIT, TIMECHK, STAMP -/

/-- 42_sequencer.md R176, the acquisition answered OK. What the transmitter is given is kept in the model's `txConfig` (log entry
18); at index 15 the next index is free (log entry 27). -/
def Obligations.InitAcquiresAndStamps : Prop :=
  encode .init = 0x00 ∧ microProgram[0] = 0x00 ∧
  ∀ s : State, acquireAnswer s = .ok → ∃ t, exec .init s = .next t ∧
    t.handleOwned = true ∧
    t.lastTs = some (timerAnswer (afterAcquire s)) ∧
    t.env.txConfig = some ⟨s.cfg.outLine, s.cfg.clkMhz, .low⟩ ∧
    t.history = s.history ++ [.acquire .ok, .time (timerAnswer (afterAcquire s))] ∧
    AdvancedFrom s.upc (afterTimer (afterAcquire s)).env t ∧
    t = { s with handleOwned := t.handleOwned, lastTs := t.lastTs, upc := t.upc, env := t.env, history := t.history }

/-- 42_sequencer.md R176, 60_exceptions.md R224: a failed acquisition is FATAL_INIT; the timer is not read. -/
def Obligations.InitFailureIsFatal : Prop :=
  ∀ s : State, acquireAnswer s = .err → ∃ t, exec .init s = .next t ∧
    t = { s with
      fault := 1, faultUpc := s.upc, env := (afterAcquire s).env,
      history := s.history ++ [.acquire .err, .fault .fatalInit s.upc] } ∧
    t.env.timerFloor = s.env.timerFloor ∧ t.env.instants = s.env.instants

/-- 42_sequencer.md R180: where `LAST_TS` holds an earlier answer of the timer (the invariant of R172), TIMECHK sets `THR` from
the biased elapsed time and goes on, or to `TGT`. At index 15 the next index of a taken threshold is free (log entry 27). -/
def Obligations.TimechkSetsThresholdFlag : Prop :=
  encode (.timechk 5) = 0x51 ∧ microProgram[1] = 0x51 ∧
  ∀ (s : State) (tgt : MicroIndex) (last : Nat), s.lastTs = some last → TimestampAnswered s →
    ∃ t, exec (.timechk tgt) s = .next t ∧
      (t.thr = true ↔
        (timerAnswer s - last) / s.cfg.timerTicksPerMs + s.cfg.elapsedBiasMs.toNat > s.cfg.fadeThresholdMs.toNat) ∧
      last ≤ timerAnswer s ∧
      t.history = s.history ++ [.time (timerAnswer s)] ∧
      (t.thr = true → AdvancedFrom s.upc (afterTimer s).env t) ∧
      (t.thr = false → t.upc = tgt ∧ t.env = (afterTimer s).env) ∧
      t = { s with thr := t.thr, upc := t.upc, env := t.env, history := t.history }

/-- 42_sequencer.md R181: with instants in microseconds `THR = 1` exactly from 20000 µs on. -/
def Obligations.ThresholdAtTwentyMilliseconds : Prop :=
  ∀ (s t : State) (tgt : MicroIndex) (last : Nat), s.cfg.wellFormed → s.cfg.timerTicksPerMs = 1000 →
    s.lastTs = some last → TimestampAnswered s → exec (.timechk tgt) s = .next t →
    (t.thr = true ↔ 20000 ≤ timerAnswer s - last)

/-- 10_state.md R45: a read of an element without a value stops at the model level, TIMECHK's of `LAST_TS` and TX's of any
entry of `FRAME`. -/
def Obligations.ReadWithoutValueStops : Prop :=
  (∀ (s : State) (tgt : MicroIndex), s.lastTs = none → exec (.timechk tgt) s = .fault .noValueLastTs) ∧
  ∀ (s : State) (i : Fin 25), s.handleOwned = true → s.txBusy = false → s.frame[i] = none →
    exec .tx s = .fault .noValueFrame

/-- 42_sequencer.md R185: STAMP's timer read is a new one. At index 15 the next index is free (log entry 27). -/
def Obligations.StampRecordsFreshRead : Prop :=
  encode .stamp = 0x03 ∧ microProgram[3] = 0x03 ∧
  ∀ s : State, ∃ t, exec .stamp s = .next t ∧
    t.lastTs = some (timerAnswer s) ∧
    s.env.timerFloor ≤ timerAnswer s ∧
    t.env.timerFloor = timerAnswer s ∧
    t.history = s.history ++ [.time (timerAnswer s)] ∧
    AdvancedFrom s.upc (afterTimer s).env t ∧
    t = { s with lastTs := t.lastTs, upc := t.upc, env := t.env, history := t.history }

/-! ### TX, WAIT, DELAY -/

/-- 42_sequencer.md R190, the transmitter answered with a token. The transmitter's own state is the model's (log entry 17); at
index 15 the next index is free (log entry 27). -/
def Obligations.TxHandsFrameOver : Prop :=
  encode .tx = 0x06 ∧ microProgram[6] = 0x06 ∧
  ∀ (s : State) (f : Frame) (k : Token), s.handleOwned = true → s.txBusy = false →
    (∀ i : Fin 25, s.frame[i] = some f[i]) → transmitAnswer f s = .token k →
    ∃ t, exec .tx s = .next t ∧
      t.token = some k ∧ t.txBusy = true ∧ t.handleOwned = false ∧
      t.env.transmitter = .emitting k f ∧
      t.history = s.history ++ [.transmit f] ∧
      AdvancedFrom s.upc (afterTransmit f s).env t ∧
      t = { s with
        token := t.token, txBusy := t.txBusy, handleOwned := t.handleOwned, upc := t.upc, env := t.env, history := t.history }

/-- 42_sequencer.md R190, 60_exceptions.md R222: the transmitter reports an error at issue. That its own state is then unchanged is
the model's choice (log entry 25). -/
def Obligations.TxErrorIsFatal : Prop :=
  ∀ (s : State) (f : Frame), s.handleOwned = true → s.txBusy = false →
    (∀ i : Fin 25, s.frame[i] = some f[i]) → transmitAnswer f s = .err →
    exec .tx s = .next { s with
      fault := 2, faultUpc := s.upc, txBusy := false, handleOwned := false, token := none, env := (afterTransmit f s).env,
      history := s.history ++ [.transmit f, .txError, .fault .fatalTx s.upc] }

/-- 60_exceptions.md R227: each ownership violation raises OWNERSHIP before any other effect. -/
def Obligations.OwnershipViolationsFault : Prop :=
  (∀ s : State, (s.handleOwned = false ∨ s.txBusy = true) → ∃ t, exec .tx s = .next t ∧ FaultedFrom .ownership s t) ∧
  (∀ s : State, s.txBusy = false → ∃ t, exec .wait s = .next t ∧ FaultedFrom .ownership s t) ∧
  ∀ s : State, s.txBusy = true → ∃ t, exec .encode s = .next t ∧ FaultedFrom .ownership s t

/-- 42_sequencer.md R195, the transmitter answered `DONE`. The transmitter's own state is the model's (log entry 17); at index 15
the next index is free (log entry 27). -/
def Obligations.WaitTakesHandleBack : Prop :=
  encode .wait = 0x07 ∧ microProgram[7] = 0x07 ∧
  ∀ (s : State) (k : Token), s.txBusy = true → s.token = some k → s.env.transmitter = .answered k .done →
    ∃ t, exec .wait s = .next t ∧
      t.txBusy = false ∧ t.handleOwned = true ∧ t.token = none ∧
      t.history = s.history ++ [.done] ∧
      AdvancedFrom s.upc { s.env with transmitter := .idle } t ∧
      t = { s with
        token := t.token, txBusy := t.txBusy, handleOwned := t.handleOwned, upc := t.upc, env := t.env, history := t.history }

/-- 42_sequencer.md R195, 60_exceptions.md R222: the transmitter answered `ERR`. That it is then idle is the model's choice (log
entry 25). -/
def Obligations.WaitErrorIsFatal : Prop :=
  ∀ (s : State) (k : Token), s.txBusy = true → s.token = some k → s.env.transmitter = .answered k .err →
    exec .wait s = .next { s with
      fault := 2, faultUpc := s.upc, txBusy := false, handleOwned := false, token := none,
      env := { s.env with transmitter := .idle },
      history := s.history ++ [.txError, .fault .fatalTx s.upc] }

/-- 42_sequencer.md R195, R196: until the transmitter has answered the token WAIT holds and nothing changes, and while the
Sequencer has the turn it stays so. A turn of the Sequencer that holds is a step of the model (log entry 15). -/
def Obligations.WaitHoldsUntilAnswered : Prop :=
  (∀ s : State, s.txBusy = true → (∀ k a, s.token = some k → s.env.transmitter ≠ .answered k a) →
    exec .wait s = .next s) ∧
  ∀ (s : State) (n : Nat), s.cfg.accepted → s.fault = 0 → decode (fetch s) = .instr .wait → s.txBusy = true →
    (∀ k a, s.token = some k → s.env.transmitter ≠ .answered k a) → s.env.turns = List.replicate n .sequencer →
    Host.Core.run core n s = .next { s with env := { s.env with turns := [] } }

/-- 42_sequencer.md R200: DELAY goes to `TGT` and records `EvDelay`; its hold is not modelled (log entry 16). -/
def Obligations.DelayJumpsToTarget : Prop :=
  encode (.delay 1) = 0x18 ∧ microProgram[8] = 0x18 ∧
  ∀ (s : State) (tgt : MicroIndex),
    exec (.delay tgt) s = .next { s with upc := tgt, history := s.history ++ [.delay] }

/-! ### The step, the agents, faults and reset -/

/-- 42_sequencer.md R170: when the word at `UPC` decodes to a micro-op, the Sequencer's step is that micro-op, scripted or
not; the turn used up is the only thing the step adds. -/
def Obligations.StepRunsDecodedMicroOp : Prop :=
  ∀ (s : State) (i : Instr), s.cfg.accepted → s.fault = 0 → decode (s.rom[s.upc.toNat]'s.upc.isLt) = .instr i →
    (s.env.turns = [] → holding s = false → step s = exec i s) ∧
    ∀ rest, s.env.turns = .sequencer :: rest → step s = exec i { s with env := { s.env with turns := rest } }

/-- The model's own placing of a word (log entry 24): the next step of a running core fetches and runs exactly it. -/
def Obligations.PlacedWordRunsNext : Prop :=
  ∀ (s : State) (w : Nat) (i : Instr), s.cfg.accepted → s.fault = 0 → decodeTableWord 8 w = some i →
    step (s.withFetchWord 8 w) = exec i { s with rom := s.rom.set s.upc.toNat (BitVec.ofNat 8 w) s.upc.isLt }

/-- 60_exceptions.md R226: a fetch whose `OP` is reserved raises ILLEGAL_OP with the fetch index, before any effect of the
word, in an unscripted turn of the Sequencer and in a scripted one; the ROM's indices 9 to 15 are such words. -/
def Obligations.ReservedOpcodeRaisesIllegalOp : Prop :=
  (∀ s : State, s.cfg.accepted → s.fault = 0 → 9 ≤ ((s.rom[s.upc.toNat]'s.upc.isLt).extractLsb' 0 4).toNat →
    (s.env.turns = [] → ∃ t, step s = .next t ∧ FaultedFrom .illegalOp s t) ∧
    ∀ rest, s.env.turns = .sequencer :: rest →
      ∃ t, step s = .next t ∧ FaultedFrom .illegalOp { s with env := { s.env with turns := rest } } t) ∧
  ∀ k : Fin 16, 9 ≤ k.val → microProgram[k] = 0xFF

/-- 42_sequencer.md R170, 60_exceptions.md R229: in HALTED the Sequencer has no step, the transmitter's own step leaves the
core as it is, and only reset leaves HALTED. -/
def Obligations.OnlyResetLeavesHalted : Prop :=
  ∀ s : State, s.cfg.accepted → s.fault ≠ 0 →
    (s.env.turns = [] → step s = .fault .halted) ∧
    (∀ rest, s.env.turns = .sequencer :: rest → step s = .fault .halted) ∧
    (∀ rest a, s.env.turns = .transmitter a :: rest → ∃ t, step s = .next t ∧ t = { s with env := t.env }) ∧
    (∀ rest, s.env.turns = .reset :: rest → ∃ t, step s = .next t ∧ t.fault = 0) ∧
    ∀ t, step s = .next t → t.fault = 0 → ∃ rest, s.env.turns = .reset :: rest

/-- 70_reset_and_hazards.md R250, 10_state.md R41: reset from any state, a hold or HALTED among them. -/
def Obligations.ResetTakenFromAnyState : Prop :=
  ∀ (s : State) (rest : List Turn), s.cfg.accepted → s.env.turns = .reset :: rest →
    ∃ t, step s = .next t ∧
      t.cur = ⟨s.cfg.initCurrent.extractLsb' 16 8, s.cfg.initCurrent.extractLsb' 8 8, s.cfg.initCurrent.extractLsb' 0 8⟩ ∧
      t.tgt = ⟨s.cfg.initTarget.extractLsb' 16 8, s.cfg.initTarget.extractLsb' 8 8, s.cfg.initTarget.extractLsb' 0 8⟩ ∧
      t.packed = pack t.cur ∧ t.lastTs = none ∧ t.thr = false ∧ t.upc = 0 ∧ (∀ i : Fin 25, t.frame[i] = none) ∧
      t.txBusy = false ∧ t.handleOwned = false ∧ t.token = none ∧ t.fault = 0 ∧ t.faultUpc = 0 ∧
      t.cfg = s.cfg ∧ t.rom = s.rom ∧ t.history = s.history ++ [.reset] ∧
      t.env.transmitter = .idle ∧ t.env.timerFloor = 0 ∧ t.env.turns = rest

/-- 10_state.md R41, R32: the values right after reset, at the default parameters of this hardware. -/
def Obligations.ResetStateValues : Prop :=
  let s := State.reset
  s.cur = ⟨0, 0, 0⟩ ∧ s.tgt = ⟨0, 0, 0⟩ ∧ s.packed = 0x000000 ∧ s.lastTs = none ∧ s.thr = false ∧ s.upc = 0 ∧
  (∀ i : Fin 25, s.frame[i] = none) ∧ s.txBusy = false ∧ s.handleOwned = false ∧ s.token = none ∧ s.fault = 0 ∧
  s.faultUpc = 0 ∧ s.cfg.clkMhz = 80 ∧ s.cfg.tPeriod = 1250 ∧ s.cfg.t1h = 640 ∧ s.cfg.t0h = 320 ∧ s.cfg.tickMode = .exact ∧
  s.cfg.fadeThresholdMs = 20 ∧ s.cfg.elapsedBiasMs = 1 ∧ s.cfg.delayUs = 100 ∧ s.cfg.randMod = 255 ∧
  s.cfg.initCurrent = 0 ∧ s.cfg.initTarget = 0 ∧ s.rom = microProgram

/-- 42_sequencer.md R174: the transmitter's step answers the pending token once; with nothing pending it changes nothing. The
states of the transmitter are the model's (log entry 17). -/
def Obligations.TransmitterAnswersPendingTokenOnce : Prop :=
  ∀ (s : State) (rest : List Turn) (a : WaitAnswer), s.cfg.accepted → s.env.turns = .transmitter a :: rest →
    (∀ k f, s.env.transmitter = .emitting k f →
      step s = .next { s with env := { s.env with transmitter := .answered k a, turns := rest } }) ∧
    ((∀ k f, s.env.transmitter ≠ .emitting k f) → step s = .next { s with env := { s.env with turns := rest } })

/-- 60_exceptions.md R223: a fault leaves the state from before the faulting micro-op, but for `FAULT`, `FAULT_UPC`, the link
of a FATAL_TX, the agents and the events already emitted. -/
def Obligations.FaultsArePrecise : Prop :=
  ∀ (i : Instr) (s t : State), s.fault = 0 → exec i s = .next t → t.fault ≠ 0 →
    t = { s with
      fault := t.fault, faultUpc := s.upc, txBusy := t.txBusy, handleOwned := t.handleOwned, token := t.token,
      env := t.env, history := t.history } ∧
    (t.fault ≠ 2 → t.txBusy = s.txBusy ∧ t.handleOwned = s.handleOwned ∧ t.token = s.token) ∧
    (t.fault = 2 → t.txBusy = false ∧ t.handleOwned = false ∧ t.token = none) ∧
    ∃ before c, t.history = s.history ++ before ++ [.fault c s.upc] ∧ t.fault = faultNumber c

/-- 60_exceptions.md R220: FADE, PACK, TIMECHK, STAMP and DELAY raise nothing, on any state. -/
def Obligations.DatapathMicroOpsRaiseNothing : Prop :=
  ∀ (i : Instr) (s t : State),
    (i = .fade ∨ i = .pack ∨ i = .stamp ∨ (∃ tgt, i = .timechk tgt) ∨ ∃ tgt, i = .delay tgt) →
    exec i s = .next t → t.fault = s.fault ∧ t.faultUpc = s.faultUpc ∧
      ∀ c u, .fault c u ∈ t.history → .fault c u ∈ s.history

/-- 10_state.md R20: each element is written only by the micro-ops the table names; `FAULT` and `FAULT_UPC` only together, by a
fault this micro-op raises and records last. `UPC` is written by every micro-op. -/
def Obligations.OnlyNamedMicroOpsWrite : Prop :=
  ∀ (i : Instr) (s t : State), exec i s = .next t →
    (i ≠ .fade → t.cur = s.cur ∧ t.tgt = s.tgt) ∧
    (i ≠ .pack → t.packed = s.packed) ∧
    (i ≠ .init → i ≠ .stamp → t.lastTs = s.lastTs) ∧
    ((∀ tgt, i ≠ .timechk tgt) → t.thr = s.thr) ∧
    (i ≠ .encode → t.frame = s.frame) ∧
    (i ≠ .tx → i ≠ .wait → t.txBusy = s.txBusy ∧ t.token = s.token) ∧
    (i ≠ .init → i ≠ .tx → i ≠ .wait → t.handleOwned = s.handleOwned) ∧
    ((t.fault = s.fault ∧ t.faultUpc = s.faultUpc) ∨ RaisedFrom s t) ∧
    t.cfg = s.cfg ∧ t.rom = s.rom

/-- 10_state.md R28: a micro-op sets `UPC` to `UPC + 1` (TIMECHK when `THR = 1`, DELAY never), to its `TGT` (TIMECHK when
`THR = 0`, and DELAY), or leaves it: at a fault it raises, or at a hold of WAIT, where nothing changes (log entry 15). At index 15
the increment is a free value (log entry 27). -/
def Obligations.UpcSetInThreeWays : Prop :=
  ∀ (i : Instr) (s t : State), exec i s = .next t → s.upc ≠ 15 →
    (t.upc = s.upc + 1 ∧ (∀ tgt, i ≠ .delay tgt) ∧ (∀ tgt, i = .timechk tgt → t.thr = true)) ∨
    (∃ tgt, t.upc = tgt ∧ ((i = .timechk tgt ∧ t.thr = false) ∨ i = .delay tgt)) ∨
    (t.upc = s.upc ∧
      (RaisedFrom s t ∨
        (i = .wait ∧ t = s ∧ s.txBusy = true ∧ ∀ k a, s.token = some k → s.env.transmitter ≠ .answered k a)))

/-! ### What every step keeps -/

/-- 20_memory.md R71, 10_state.md R32: no step writes the ROM or the configuration record. -/
def Obligations.ParametersNeverWritten : Prop :=
  ∀ s t : State, step s = .next t → t.cfg = s.cfg ∧ t.rom = s.rom

/-- 10_state.md R46: the history only grows, at most by one reset or by one agent's events. -/
def Obligations.HistoryOnlyGrows : Prop :=
  ∀ s t : State, step s = .next t →
    ∃ new, t.history = s.history ++ new ∧ new.length ≤ 3 ∧
      (.reset ∈ new → ∃ rest, s.env.turns = .reset :: rest ∧ new = [.reset])

/-- 10_state.md R35, 60_exceptions.md R221: `FAULT` never holds a reserved code. -/
def Obligations.FaultCodeStaysLegal : Prop :=
  ∀ s t : State, FaultCodeLegal s → step s = .next t → FaultCodeLegal t

/-- 42_sequencer.md R172: `LAST_TS` stays an earlier answer of the timer, so TIMECHK's subtraction never goes negative. -/
def Obligations.TimestampStaysAnswered : Prop :=
  ∀ s t : State, TimestampAnswered s → step s = .next t →
    TimestampAnswered t ∧ ∀ last, t.lastTs = some last → last ≤ timerAnswer t

/-- 10_state.md R24: with both reset colours at most 254 in every channel, so are `CUR` and `TGT` in every state. -/
def Obligations.ColourRangeKept : Prop :=
  ∀ s t : State, ColorRange s → step s = .next t → ColorRange t

/-- 20_memory.md R64, 70_reset_and_hazards.md R260: while a transmission is in flight `FRAME` stays what it was at TX. -/
def Obligations.FrameInFlightStaysKept : Prop :=
  ∀ s t : State, FrameInFlightKept s → step s = .next t → FrameInFlightKept t

/-- 10_state.md R24, R29, R39, R40, R45; 42_sequencer.md R172: the invariants hold right after reset. -/
def Obligations.InvariantsHoldAtReset : Prop :=
  MicroProgramInv State.reset ∧ ColorRange State.reset ∧ TimestampAnswered State.reset ∧ FrameInFlightKept State.reset ∧
  FaultCodeLegal State.reset

/-- 10_state.md R29, R39, R40: every step of any agent keeps what the fixed micro-program maintains: the indices 0 to 8, the
ownership invariant, `PACKED = pack(CUR)` outside the fade branch, and values in `LAST_TS` and `FRAME` where they are read. -/
def Obligations.MicroProgramInvariantKept : Prop :=
  ∀ s t : State, MicroProgramInv s → step s = .next t → MicroProgramInv t

/-- 10_state.md R45, 60_exceptions.md R221: under the fixed micro-program no read of an element without a value stops a running
core, and codes 3 and 4 do not occur. That it has a step at a hold at WAIT too is the model's choice (log entry 15): the spec gives
the Sequencer no enabled step there (42_sequencer.md R196), and the model counts the hold as a step that changes nothing. -/
def Obligations.MicroProgramNeverStuck : Prop :=
  ∀ s : State, MicroProgramInv s → s.cfg.accepted → s.fault = 0 →
    ∃ t, step s = .next t ∧ t.fault ≠ 3 ∧ t.fault ≠ 4

/-- 10_state.md R40: in every state a core with the fixed micro-program reaches after reset, whatever its record and whatever the
agents do, while it runs at indices 1 to 8 exactly one of the two ownership cases holds, the second exactly at WAIT. -/
def Obligations.AtMostOneTransmission : Prop :=
  ∀ (c : Config) (e : Env) (n : Nat) (s : State),
    Host.Core.run core n (State.resetWith c microProgram e []) = .next s → s.fault = 0 → 1 ≤ s.upc.toNat → s.upc.toNat ≤ 8 →
    ((s.handleOwned = true ∧ s.txBusy = false ∧ s.token = none) ∨
      (s.handleOwned = false ∧ s.txBusy = true ∧ s.token ≠ none)) ∧
    ((s.handleOwned = false ∧ s.txBusy = true ∧ s.token ≠ none) ↔ s.upc = 7)

/-- 10_state.md R39, 40_pulse_encoder.md R120: under the fixed micro-program every frame handed to the transmitter is the frame of
the current colour, and a step hands over at most one. -/
def Obligations.TransmittedFrameIsCurrentColour : Prop :=
  ∀ s t : State, MicroProgramInv s → step s = .next t →
    transmittedFrames t.history = transmittedFrames s.history ∨
    (s.upc = 6 ∧ transmittedFrames t.history = transmittedFrames s.history ++ [encodeFrame s.cfg (pack s.cur)])

/-- 42_sequencer.md R182: two TIMECHKs that both set `THR = 1`, with no reset between them, read the timer at least 20000 µs
apart. -/
def Obligations.FadesAtLeastTwentyMillisecondsApart : Prop :=
  ∀ (n : Nat) (s t s' t' : State),
    MicroProgramInv s → s.cfg.timerTicksPerMs = 1000 →
    s.upc = 1 → nextTurn s = .sequencer → step s = .next t → t.thr = true →
    Host.Core.run core n t = .next s' → resetCount s'.history = resetCount t.history →
    s'.upc = 1 → nextTurn s' = .sequencer → step s' = .next t' → t'.thr = true →
    timerAnswer (afterChoice s) + 20000 ≤ timerAnswer (afterChoice s')
end

