-- ==== Sys2Proof/Laws/State.lean ====
section
/-! SUPPORT. The field lemmas: one for each field of the state and each shared operation, so that no proof unfolds a record
update. -/

namespace Sys2Proof.Machine

/-! `emit` writes the history alone. -/

@[simp] theorem emit_cur (e : Event) (s : State) : (emit e s).cur = s.cur := rfl
@[simp] theorem emit_tgt (e : Event) (s : State) : (emit e s).tgt = s.tgt := rfl
@[simp] theorem emit_packed (e : Event) (s : State) : (emit e s).packed = s.packed := rfl
@[simp] theorem emit_lastTs (e : Event) (s : State) : (emit e s).lastTs = s.lastTs := rfl
@[simp] theorem emit_thr (e : Event) (s : State) : (emit e s).thr = s.thr := rfl
@[simp] theorem emit_upc (e : Event) (s : State) : (emit e s).upc = s.upc := rfl
@[simp] theorem emit_frame (e : Event) (s : State) : (emit e s).frame = s.frame := rfl
@[simp] theorem emit_txBusy (e : Event) (s : State) : (emit e s).txBusy = s.txBusy := rfl
@[simp] theorem emit_handleOwned (e : Event) (s : State) : (emit e s).handleOwned = s.handleOwned := rfl
@[simp] theorem emit_token (e : Event) (s : State) : (emit e s).token = s.token := rfl
@[simp] theorem emit_fault (e : Event) (s : State) : (emit e s).fault = s.fault := rfl
@[simp] theorem emit_faultUpc (e : Event) (s : State) : (emit e s).faultUpc = s.faultUpc := rfl
@[simp] theorem emit_cfg (e : Event) (s : State) : (emit e s).cfg = s.cfg := rfl
@[simp] theorem emit_rom (e : Event) (s : State) : (emit e s).rom = s.rom := rfl
@[simp] theorem emit_env (e : Event) (s : State) : (emit e s).env = s.env := rfl
@[simp] theorem emit_history (e : Event) (s : State) : (emit e s).history = s.history ++ [e] := rfl

/-! `advance` writes `UPC`, and the counter of free values past index 15. -/

@[simp] theorem advance_cur (s : State) : (advance s).cur = s.cur := by unfold advance; split <;> rfl
@[simp] theorem advance_tgt (s : State) : (advance s).tgt = s.tgt := by unfold advance; split <;> rfl
@[simp] theorem advance_packed (s : State) : (advance s).packed = s.packed := by unfold advance; split <;> rfl
@[simp] theorem advance_lastTs (s : State) : (advance s).lastTs = s.lastTs := by unfold advance; split <;> rfl
@[simp] theorem advance_thr (s : State) : (advance s).thr = s.thr := by unfold advance; split <;> rfl
@[simp] theorem advance_frame (s : State) : (advance s).frame = s.frame := by unfold advance; split <;> rfl
@[simp] theorem advance_txBusy (s : State) : (advance s).txBusy = s.txBusy := by unfold advance; split <;> rfl
@[simp] theorem advance_handleOwned (s : State) : (advance s).handleOwned = s.handleOwned := by unfold advance; split <;> rfl
@[simp] theorem advance_token (s : State) : (advance s).token = s.token := by unfold advance; split <;> rfl
@[simp] theorem advance_fault (s : State) : (advance s).fault = s.fault := by unfold advance; split <;> rfl
@[simp] theorem advance_faultUpc (s : State) : (advance s).faultUpc = s.faultUpc := by unfold advance; split <;> rfl
@[simp] theorem advance_cfg (s : State) : (advance s).cfg = s.cfg := by unfold advance; split <;> rfl
@[simp] theorem advance_rom (s : State) : (advance s).rom = s.rom := by unfold advance; split <;> rfl
@[simp] theorem advance_history (s : State) : (advance s).history = s.history := by unfold advance; split <;> rfl

/-! `jump` writes `UPC` alone. -/

@[simp] theorem jump_cur (t : MicroIndex) (s : State) : (jump t s).cur = s.cur := rfl
@[simp] theorem jump_tgt (t : MicroIndex) (s : State) : (jump t s).tgt = s.tgt := rfl
@[simp] theorem jump_packed (t : MicroIndex) (s : State) : (jump t s).packed = s.packed := rfl
@[simp] theorem jump_lastTs (t : MicroIndex) (s : State) : (jump t s).lastTs = s.lastTs := rfl
@[simp] theorem jump_thr (t : MicroIndex) (s : State) : (jump t s).thr = s.thr := rfl
@[simp] theorem jump_upc (t : MicroIndex) (s : State) : (jump t s).upc = t := rfl
@[simp] theorem jump_frame (t : MicroIndex) (s : State) : (jump t s).frame = s.frame := rfl
@[simp] theorem jump_txBusy (t : MicroIndex) (s : State) : (jump t s).txBusy = s.txBusy := rfl
@[simp] theorem jump_handleOwned (t : MicroIndex) (s : State) : (jump t s).handleOwned = s.handleOwned := rfl
@[simp] theorem jump_token (t : MicroIndex) (s : State) : (jump t s).token = s.token := rfl
@[simp] theorem jump_fault (t : MicroIndex) (s : State) : (jump t s).fault = s.fault := rfl
@[simp] theorem jump_faultUpc (t : MicroIndex) (s : State) : (jump t s).faultUpc = s.faultUpc := rfl
@[simp] theorem jump_cfg (t : MicroIndex) (s : State) : (jump t s).cfg = s.cfg := rfl
@[simp] theorem jump_rom (t : MicroIndex) (s : State) : (jump t s).rom = s.rom := rfl
@[simp] theorem jump_env (t : MicroIndex) (s : State) : (jump t s).env = s.env := rfl
@[simp] theorem jump_history (t : MicroIndex) (s : State) : (jump t s).history = s.history := rfl

/-! `writeFrame` writes `FRAME` alone. -/

@[simp] theorem writeFrame_cur (f : Frame) (s : State) : (writeFrame f s).cur = s.cur := rfl
@[simp] theorem writeFrame_tgt (f : Frame) (s : State) : (writeFrame f s).tgt = s.tgt := rfl
@[simp] theorem writeFrame_packed (f : Frame) (s : State) : (writeFrame f s).packed = s.packed := rfl
@[simp] theorem writeFrame_lastTs (f : Frame) (s : State) : (writeFrame f s).lastTs = s.lastTs := rfl
@[simp] theorem writeFrame_thr (f : Frame) (s : State) : (writeFrame f s).thr = s.thr := rfl
@[simp] theorem writeFrame_upc (f : Frame) (s : State) : (writeFrame f s).upc = s.upc := rfl
@[simp] theorem writeFrame_frame (f : Frame) (s : State) : (writeFrame f s).frame = storedFrame f := rfl
@[simp] theorem writeFrame_txBusy (f : Frame) (s : State) : (writeFrame f s).txBusy = s.txBusy := rfl
@[simp] theorem writeFrame_handleOwned (f : Frame) (s : State) : (writeFrame f s).handleOwned = s.handleOwned := rfl
@[simp] theorem writeFrame_token (f : Frame) (s : State) : (writeFrame f s).token = s.token := rfl
@[simp] theorem writeFrame_fault (f : Frame) (s : State) : (writeFrame f s).fault = s.fault := rfl
@[simp] theorem writeFrame_faultUpc (f : Frame) (s : State) : (writeFrame f s).faultUpc = s.faultUpc := rfl
@[simp] theorem writeFrame_cfg (f : Frame) (s : State) : (writeFrame f s).cfg = s.cfg := rfl
@[simp] theorem writeFrame_rom (f : Frame) (s : State) : (writeFrame f s).rom = s.rom := rfl
@[simp] theorem writeFrame_env (f : Frame) (s : State) : (writeFrame f s).env = s.env := rfl
@[simp] theorem writeFrame_history (f : Frame) (s : State) : (writeFrame f s).history = s.history := rfl

/-! `Tx.acquire`. -/

@[simp] theorem afterAcquire_cur (s : State) : (afterAcquire s).cur = s.cur := rfl
@[simp] theorem afterAcquire_tgt (s : State) : (afterAcquire s).tgt = s.tgt := rfl
@[simp] theorem afterAcquire_packed (s : State) : (afterAcquire s).packed = s.packed := rfl
@[simp] theorem afterAcquire_lastTs (s : State) : (afterAcquire s).lastTs = s.lastTs := rfl
@[simp] theorem afterAcquire_thr (s : State) : (afterAcquire s).thr = s.thr := rfl
@[simp] theorem afterAcquire_upc (s : State) : (afterAcquire s).upc = s.upc := rfl
@[simp] theorem afterAcquire_frame (s : State) : (afterAcquire s).frame = s.frame := rfl
@[simp] theorem afterAcquire_txBusy (s : State) : (afterAcquire s).txBusy = s.txBusy := rfl
@[simp] theorem afterAcquire_handleOwned (s : State) : (afterAcquire s).handleOwned = s.handleOwned := rfl
@[simp] theorem afterAcquire_token (s : State) : (afterAcquire s).token = s.token := rfl
@[simp] theorem afterAcquire_fault (s : State) : (afterAcquire s).fault = s.fault := rfl
@[simp] theorem afterAcquire_faultUpc (s : State) : (afterAcquire s).faultUpc = s.faultUpc := rfl
@[simp] theorem afterAcquire_cfg (s : State) : (afterAcquire s).cfg = s.cfg := rfl
@[simp] theorem afterAcquire_rom (s : State) : (afterAcquire s).rom = s.rom := rfl
@[simp] theorem afterAcquire_history (s : State) : (afterAcquire s).history = s.history ++ [.acquire (acquireAnswer s)] := rfl

/-! `Timer.now()`. -/

@[simp] theorem afterTimer_cur (s : State) : (afterTimer s).cur = s.cur := rfl
@[simp] theorem afterTimer_tgt (s : State) : (afterTimer s).tgt = s.tgt := rfl
@[simp] theorem afterTimer_packed (s : State) : (afterTimer s).packed = s.packed := rfl
@[simp] theorem afterTimer_lastTs (s : State) : (afterTimer s).lastTs = s.lastTs := rfl
@[simp] theorem afterTimer_thr (s : State) : (afterTimer s).thr = s.thr := rfl
@[simp] theorem afterTimer_upc (s : State) : (afterTimer s).upc = s.upc := rfl
@[simp] theorem afterTimer_frame (s : State) : (afterTimer s).frame = s.frame := rfl
@[simp] theorem afterTimer_txBusy (s : State) : (afterTimer s).txBusy = s.txBusy := rfl
@[simp] theorem afterTimer_handleOwned (s : State) : (afterTimer s).handleOwned = s.handleOwned := rfl
@[simp] theorem afterTimer_token (s : State) : (afterTimer s).token = s.token := rfl
@[simp] theorem afterTimer_fault (s : State) : (afterTimer s).fault = s.fault := rfl
@[simp] theorem afterTimer_faultUpc (s : State) : (afterTimer s).faultUpc = s.faultUpc := rfl
@[simp] theorem afterTimer_cfg (s : State) : (afterTimer s).cfg = s.cfg := rfl
@[simp] theorem afterTimer_rom (s : State) : (afterTimer s).rom = s.rom := rfl
@[simp] theorem afterTimer_history (s : State) : (afterTimer s).history = s.history ++ [.time (timerAnswer s)] := rfl

/-! `Entropy.next()`. -/

@[simp] theorem afterEntropy_cur (s : State) : (afterEntropy s).cur = s.cur := rfl
@[simp] theorem afterEntropy_tgt (s : State) : (afterEntropy s).tgt = s.tgt := rfl
@[simp] theorem afterEntropy_packed (s : State) : (afterEntropy s).packed = s.packed := rfl
@[simp] theorem afterEntropy_lastTs (s : State) : (afterEntropy s).lastTs = s.lastTs := rfl
@[simp] theorem afterEntropy_thr (s : State) : (afterEntropy s).thr = s.thr := rfl
@[simp] theorem afterEntropy_upc (s : State) : (afterEntropy s).upc = s.upc := rfl
@[simp] theorem afterEntropy_frame (s : State) : (afterEntropy s).frame = s.frame := rfl
@[simp] theorem afterEntropy_txBusy (s : State) : (afterEntropy s).txBusy = s.txBusy := rfl
@[simp] theorem afterEntropy_handleOwned (s : State) : (afterEntropy s).handleOwned = s.handleOwned := rfl
@[simp] theorem afterEntropy_token (s : State) : (afterEntropy s).token = s.token := rfl
@[simp] theorem afterEntropy_fault (s : State) : (afterEntropy s).fault = s.fault := rfl
@[simp] theorem afterEntropy_faultUpc (s : State) : (afterEntropy s).faultUpc = s.faultUpc := rfl
@[simp] theorem afterEntropy_cfg (s : State) : (afterEntropy s).cfg = s.cfg := rfl
@[simp] theorem afterEntropy_rom (s : State) : (afterEntropy s).rom = s.rom := rfl
@[simp] theorem afterEntropy_history (s : State) : (afterEntropy s).history = s.history ++ [.draw (entropyAnswer s)] := rfl

/-! `Tx.transmit`. -/

@[simp] theorem afterTransmit_cur (f : Frame) (s : State) : (afterTransmit f s).cur = s.cur := rfl
@[simp] theorem afterTransmit_tgt (f : Frame) (s : State) : (afterTransmit f s).tgt = s.tgt := rfl
@[simp] theorem afterTransmit_packed (f : Frame) (s : State) : (afterTransmit f s).packed = s.packed := rfl
@[simp] theorem afterTransmit_lastTs (f : Frame) (s : State) : (afterTransmit f s).lastTs = s.lastTs := rfl
@[simp] theorem afterTransmit_thr (f : Frame) (s : State) : (afterTransmit f s).thr = s.thr := rfl
@[simp] theorem afterTransmit_upc (f : Frame) (s : State) : (afterTransmit f s).upc = s.upc := rfl
@[simp] theorem afterTransmit_frame (f : Frame) (s : State) : (afterTransmit f s).frame = s.frame := rfl
@[simp] theorem afterTransmit_txBusy (f : Frame) (s : State) : (afterTransmit f s).txBusy = s.txBusy := rfl
@[simp] theorem afterTransmit_handleOwned (f : Frame) (s : State) : (afterTransmit f s).handleOwned = s.handleOwned := rfl
@[simp] theorem afterTransmit_token (f : Frame) (s : State) : (afterTransmit f s).token = s.token := rfl
@[simp] theorem afterTransmit_fault (f : Frame) (s : State) : (afterTransmit f s).fault = s.fault := rfl
@[simp] theorem afterTransmit_faultUpc (f : Frame) (s : State) : (afterTransmit f s).faultUpc = s.faultUpc := rfl
@[simp] theorem afterTransmit_cfg (f : Frame) (s : State) : (afterTransmit f s).cfg = s.cfg := rfl
@[simp] theorem afterTransmit_rom (f : Frame) (s : State) : (afterTransmit f s).rom = s.rom := rfl
@[simp] theorem afterTransmit_history (f : Frame) (s : State) : (afterTransmit f s).history = s.history ++ [.transmit f] := rfl

/-! `Tx.wait`. -/

@[simp] theorem afterWait_cur (s : State) : (afterWait s).cur = s.cur := rfl
@[simp] theorem afterWait_tgt (s : State) : (afterWait s).tgt = s.tgt := rfl
@[simp] theorem afterWait_packed (s : State) : (afterWait s).packed = s.packed := rfl
@[simp] theorem afterWait_lastTs (s : State) : (afterWait s).lastTs = s.lastTs := rfl
@[simp] theorem afterWait_thr (s : State) : (afterWait s).thr = s.thr := rfl
@[simp] theorem afterWait_upc (s : State) : (afterWait s).upc = s.upc := rfl
@[simp] theorem afterWait_frame (s : State) : (afterWait s).frame = s.frame := rfl
@[simp] theorem afterWait_txBusy (s : State) : (afterWait s).txBusy = s.txBusy := rfl
@[simp] theorem afterWait_handleOwned (s : State) : (afterWait s).handleOwned = s.handleOwned := rfl
@[simp] theorem afterWait_token (s : State) : (afterWait s).token = s.token := rfl
@[simp] theorem afterWait_fault (s : State) : (afterWait s).fault = s.fault := rfl
@[simp] theorem afterWait_faultUpc (s : State) : (afterWait s).faultUpc = s.faultUpc := rfl
@[simp] theorem afterWait_cfg (s : State) : (afterWait s).cfg = s.cfg := rfl
@[simp] theorem afterWait_rom (s : State) : (afterWait s).rom = s.rom := rfl
@[simp] theorem afterWait_env (s : State) : (afterWait s).env = { s.env with transmitter := .idle } := rfl
@[simp] theorem afterWait_history (s : State) : (afterWait s).history = s.history := rfl

/-! The nudge phase of FADE. -/

@[simp] theorem nudgeState_cur (s : State) : (nudgeState s).cur = nudge s.cur s.tgt := rfl
@[simp] theorem nudgeState_tgt (s : State) : (nudgeState s).tgt = s.tgt := rfl
@[simp] theorem nudgeState_packed (s : State) : (nudgeState s).packed = s.packed := rfl
@[simp] theorem nudgeState_lastTs (s : State) : (nudgeState s).lastTs = s.lastTs := rfl
@[simp] theorem nudgeState_thr (s : State) : (nudgeState s).thr = s.thr := rfl
@[simp] theorem nudgeState_upc (s : State) : (nudgeState s).upc = s.upc := rfl
@[simp] theorem nudgeState_frame (s : State) : (nudgeState s).frame = s.frame := rfl
@[simp] theorem nudgeState_txBusy (s : State) : (nudgeState s).txBusy = s.txBusy := rfl
@[simp] theorem nudgeState_handleOwned (s : State) : (nudgeState s).handleOwned = s.handleOwned := rfl
@[simp] theorem nudgeState_token (s : State) : (nudgeState s).token = s.token := rfl
@[simp] theorem nudgeState_fault (s : State) : (nudgeState s).fault = s.fault := rfl
@[simp] theorem nudgeState_faultUpc (s : State) : (nudgeState s).faultUpc = s.faultUpc := rfl
@[simp] theorem nudgeState_cfg (s : State) : (nudgeState s).cfg = s.cfg := rfl
@[simp] theorem nudgeState_rom (s : State) : (nudgeState s).rom = s.rom := rfl
@[simp] theorem nudgeState_env (s : State) : (nudgeState s).env = s.env := rfl
@[simp] theorem nudgeState_history (s : State) : (nudgeState s).history = s.history := rfl

/-! The retarget phase of FADE. -/

@[simp] theorem retarget_cur (s : State) : (retarget s).cur = s.cur := by unfold retarget; split <;> rfl
@[simp] theorem retarget_packed (s : State) : (retarget s).packed = s.packed := by unfold retarget; split <;> rfl
@[simp] theorem retarget_lastTs (s : State) : (retarget s).lastTs = s.lastTs := by unfold retarget; split <;> rfl
@[simp] theorem retarget_thr (s : State) : (retarget s).thr = s.thr := by unfold retarget; split <;> rfl
@[simp] theorem retarget_upc (s : State) : (retarget s).upc = s.upc := by unfold retarget; split <;> rfl
@[simp] theorem retarget_frame (s : State) : (retarget s).frame = s.frame := by unfold retarget; split <;> rfl
@[simp] theorem retarget_txBusy (s : State) : (retarget s).txBusy = s.txBusy := by unfold retarget; split <;> rfl
@[simp] theorem retarget_handleOwned (s : State) : (retarget s).handleOwned = s.handleOwned := by unfold retarget; split <;> rfl
@[simp] theorem retarget_token (s : State) : (retarget s).token = s.token := by unfold retarget; split <;> rfl
@[simp] theorem retarget_fault (s : State) : (retarget s).fault = s.fault := by unfold retarget; split <;> rfl
@[simp] theorem retarget_faultUpc (s : State) : (retarget s).faultUpc = s.faultUpc := by unfold retarget; split <;> rfl
@[simp] theorem retarget_cfg (s : State) : (retarget s).cfg = s.cfg := by unfold retarget; split <;> rfl
@[simp] theorem retarget_rom (s : State) : (retarget s).rom = s.rom := by unfold retarget; split <;> rfl

/-! The transmitter's own step. -/

@[simp] theorem transmitterTurn_cur (a : WaitAnswer) (s : State) : (transmitterTurn a s).cur = s.cur := by unfold transmitterTurn; split <;> rfl
@[simp] theorem transmitterTurn_tgt (a : WaitAnswer) (s : State) : (transmitterTurn a s).tgt = s.tgt := by unfold transmitterTurn; split <;> rfl
@[simp] theorem transmitterTurn_packed (a : WaitAnswer) (s : State) : (transmitterTurn a s).packed = s.packed := by unfold transmitterTurn; split <;> rfl
@[simp] theorem transmitterTurn_lastTs (a : WaitAnswer) (s : State) : (transmitterTurn a s).lastTs = s.lastTs := by unfold transmitterTurn; split <;> rfl
@[simp] theorem transmitterTurn_thr (a : WaitAnswer) (s : State) : (transmitterTurn a s).thr = s.thr := by unfold transmitterTurn; split <;> rfl
@[simp] theorem transmitterTurn_upc (a : WaitAnswer) (s : State) : (transmitterTurn a s).upc = s.upc := by unfold transmitterTurn; split <;> rfl
@[simp] theorem transmitterTurn_frame (a : WaitAnswer) (s : State) : (transmitterTurn a s).frame = s.frame := by unfold transmitterTurn; split <;> rfl
@[simp] theorem transmitterTurn_txBusy (a : WaitAnswer) (s : State) : (transmitterTurn a s).txBusy = s.txBusy := by unfold transmitterTurn; split <;> rfl
@[simp] theorem transmitterTurn_handleOwned (a : WaitAnswer) (s : State) : (transmitterTurn a s).handleOwned = s.handleOwned := by unfold transmitterTurn; split <;> rfl
@[simp] theorem transmitterTurn_token (a : WaitAnswer) (s : State) : (transmitterTurn a s).token = s.token := by unfold transmitterTurn; split <;> rfl
@[simp] theorem transmitterTurn_fault (a : WaitAnswer) (s : State) : (transmitterTurn a s).fault = s.fault := by unfold transmitterTurn; split <;> rfl
@[simp] theorem transmitterTurn_faultUpc (a : WaitAnswer) (s : State) : (transmitterTurn a s).faultUpc = s.faultUpc := by unfold transmitterTurn; split <;> rfl
@[simp] theorem transmitterTurn_cfg (a : WaitAnswer) (s : State) : (transmitterTurn a s).cfg = s.cfg := by unfold transmitterTurn; split <;> rfl
@[simp] theorem transmitterTurn_rom (a : WaitAnswer) (s : State) : (transmitterTurn a s).rom = s.rom := by unfold transmitterTurn; split <;> rfl
@[simp] theorem transmitterTurn_history (a : WaitAnswer) (s : State) : (transmitterTurn a s).history = s.history := by unfold transmitterTurn; split <;> rfl

/-! The choice of a turn. -/

@[simp] theorem afterChoice_cur (s : State) : (afterChoice s).cur = s.cur := by unfold afterChoice; split <;> (try split) <;> rfl
@[simp] theorem afterChoice_tgt (s : State) : (afterChoice s).tgt = s.tgt := by unfold afterChoice; split <;> (try split) <;> rfl
@[simp] theorem afterChoice_packed (s : State) : (afterChoice s).packed = s.packed := by unfold afterChoice; split <;> (try split) <;> rfl
@[simp] theorem afterChoice_lastTs (s : State) : (afterChoice s).lastTs = s.lastTs := by unfold afterChoice; split <;> (try split) <;> rfl
@[simp] theorem afterChoice_thr (s : State) : (afterChoice s).thr = s.thr := by unfold afterChoice; split <;> (try split) <;> rfl
@[simp] theorem afterChoice_upc (s : State) : (afterChoice s).upc = s.upc := by unfold afterChoice; split <;> (try split) <;> rfl
@[simp] theorem afterChoice_frame (s : State) : (afterChoice s).frame = s.frame := by unfold afterChoice; split <;> (try split) <;> rfl
@[simp] theorem afterChoice_txBusy (s : State) : (afterChoice s).txBusy = s.txBusy := by unfold afterChoice; split <;> (try split) <;> rfl
@[simp] theorem afterChoice_handleOwned (s : State) : (afterChoice s).handleOwned = s.handleOwned := by unfold afterChoice; split <;> (try split) <;> rfl
@[simp] theorem afterChoice_token (s : State) : (afterChoice s).token = s.token := by unfold afterChoice; split <;> (try split) <;> rfl
@[simp] theorem afterChoice_fault (s : State) : (afterChoice s).fault = s.fault := by unfold afterChoice; split <;> (try split) <;> rfl
@[simp] theorem afterChoice_faultUpc (s : State) : (afterChoice s).faultUpc = s.faultUpc := by unfold afterChoice; split <;> (try split) <;> rfl
@[simp] theorem afterChoice_cfg (s : State) : (afterChoice s).cfg = s.cfg := by unfold afterChoice; split <;> (try split) <;> rfl
@[simp] theorem afterChoice_rom (s : State) : (afterChoice s).rom = s.rom := by unfold afterChoice; split <;> (try split) <;> rfl
@[simp] theorem afterChoice_history (s : State) : (afterChoice s).history = s.history := by unfold afterChoice; split <;> (try split) <;> rfl

/-! Fault entry. -/

@[simp] theorem raise_cur (c : FaultCode) (s : State) : (raise c s).cur = s.cur := by cases c <;> rfl
@[simp] theorem raise_tgt (c : FaultCode) (s : State) : (raise c s).tgt = s.tgt := by cases c <;> rfl
@[simp] theorem raise_packed (c : FaultCode) (s : State) : (raise c s).packed = s.packed := by cases c <;> rfl
@[simp] theorem raise_lastTs (c : FaultCode) (s : State) : (raise c s).lastTs = s.lastTs := by cases c <;> rfl
@[simp] theorem raise_thr (c : FaultCode) (s : State) : (raise c s).thr = s.thr := by cases c <;> rfl
@[simp] theorem raise_upc (c : FaultCode) (s : State) : (raise c s).upc = s.upc := by cases c <;> rfl
@[simp] theorem raise_frame (c : FaultCode) (s : State) : (raise c s).frame = s.frame := by cases c <;> rfl
@[simp] theorem raise_fault (c : FaultCode) (s : State) : (raise c s).fault = faultNumber c := by cases c <;> rfl
@[simp] theorem raise_faultUpc (c : FaultCode) (s : State) : (raise c s).faultUpc = s.upc := by cases c <;> rfl
@[simp] theorem raise_cfg (c : FaultCode) (s : State) : (raise c s).cfg = s.cfg := by cases c <;> rfl
@[simp] theorem raise_rom (c : FaultCode) (s : State) : (raise c s).rom = s.rom := by cases c <;> rfl
@[simp] theorem raise_env (c : FaultCode) (s : State) : (raise c s).env = s.env := by cases c <;> rfl
@[simp] theorem raise_history (c : FaultCode) (s : State) : (raise c s).history = s.history ++ [.fault c s.upc] := by cases c <;> rfl

/-- The transmitter link after fault entry: dropped by FATAL_TX, kept by every other fault (60_exceptions.md R222). -/
@[simp] theorem raise_txBusy (c : FaultCode) (s : State) : (raise c s).txBusy = (if c = .fatalTx then false else s.txBusy) := by
  cases c <;> rfl
@[simp] theorem raise_handleOwned (c : FaultCode) (s : State) :
    (raise c s).handleOwned = (if c = .fatalTx then false else s.handleOwned) := by
  cases c <;> rfl
@[simp] theorem raise_token (c : FaultCode) (s : State) : (raise c s).token = (if c = .fatalTx then none else s.token) := by
  cases c <;> rfl

/-! Reset. -/

@[simp] theorem takeReset_cfg (s : State) : (takeReset s).cfg = s.cfg := rfl
@[simp] theorem takeReset_rom (s : State) : (takeReset s).rom = s.rom := rfl
@[simp] theorem takeReset_history (s : State) : (takeReset s).history = s.history ++ [.reset] := rfl
@[simp] theorem takeReset_env (s : State) : (takeReset s).env = s.env.afterReset := rfl
@[simp] theorem takeReset_upc (s : State) : (takeReset s).upc = 0 := rfl
@[simp] theorem takeReset_fault (s : State) : (takeReset s).fault = 0 := rfl
@[simp] theorem takeReset_lastTs (s : State) : (takeReset s).lastTs = none := rfl
@[simp] theorem takeReset_txBusy (s : State) : (takeReset s).txBusy = false := rfl
@[simp] theorem takeReset_cur (s : State) : (takeReset s).cur = logicalColor s.cfg.initCurrent := rfl
@[simp] theorem takeReset_tgt (s : State) : (takeReset s).tgt = logicalColor s.cfg.initTarget := rfl
@[simp] theorem takeReset_packed (s : State) : (takeReset s).packed = pack (logicalColor s.cfg.initCurrent) := rfl

end Sys2Proof.Machine
end

