-- ==== Sys2Proof/Laws/Frame.lean ====
section
/-! SUPPORT. The frame buffer: what is read after a frame is written (spec/20_memory.md R64, spec/10_state.md R45), and what the
frame of a packed colour holds at each entry (spec/40_pulse_encoder.md R115 to R118). -/

namespace Sys2Proof.Machine

@[simp] theorem storedFrame_getElem (f : Frame) (i : Nat) (h : i < 25) : (storedFrame f)[i] = some f[i] := by
  simp [storedFrame]

/-- Read after write: a stored frame reads back whole. -/
@[simp] theorem frameValues_storedFrame (f : Frame) : frameValues (storedFrame f) = some f := by
  have h : ∀ i : Fin 25, (storedFrame f)[i].isSome := by intro i; simp
  have e : (Vector.ofFn fun i : Fin 25 => (storedFrame f)[i].get (h i)) = f := by
    ext i hi
    simp
  unfold frameValues
  rw [dif_pos h, e]

/-- An entry of a frame that reads whole holds the entry read. -/
theorem frameValues_getElem {v : Vector (Option EntryWord) 25} {f : Frame} (h : frameValues v = some f) (i : Nat)
    (hi : i < 25) : v[i] = some f[i] := by
  unfold frameValues at h
  split at h
  · rename_i hv
    have e := Option.some.inj h
    subst e
    simp
  · cases h

/-- With an entry without a value nothing is read. -/
theorem frameValues_none {v : Vector (Option EntryWord) 25} (i : Fin 25) (h : v[i] = none) :
    frameValues v = none := by
  unfold frameValues
  rw [dif_neg]
  intro hv
  have := hv i
  rw [h] at this
  cases this

theorem readFrame_eq (s : State) : readFrame s = frameValues s.frame := rfl

@[simp] theorem readFrame_writeFrame (f : Frame) (s : State) : readFrame (writeFrame f s) = some f := by
  simp [readFrame_eq]

/-- A data entry is the profile of its source bit (R115, R116). -/
theorem encodeFrame_data (c : Config) (v : Packed) (i : Nat) (h : i < 24) :
    (encodeFrame c v)[i]'(Nat.lt_of_lt_of_le h (by decide)) = profileWord c (sourceBit v i) := by
  simp [encodeFrame, h]

/-- Entry 24 is the terminator (R118). -/
theorem encodeFrame_term (c : Config) (v : Packed) : (encodeFrame c v)[24] = wordTerm := by
  simp [encodeFrame]

end Sys2Proof.Machine
end

