-- ==== Sys2Proof/Laws/Ops.lean ====
section
/-! SUPPORT. One lemma for each shared operation that says everything it does, and the small arithmetic of the layouts. -/

namespace Sys2Proof.Machine

/-- Below index 15 the advance is the plain increment (spec/10_state.md R28). -/
theorem advance_eq {s : State} (h : s.upc ≠ 15) : advance s = { s with upc := s.upc + 1 } := by
  unfold advance; rw [if_neg h]

/-- At index 15 the advance takes a free value. -/
theorem advance_past_end {s : State} (h : s.upc = 15) :
    advance s = { s with upc := Config.freeIndexPastEnd s.env.freeIndex, env := { s.env with freeIndex := s.env.freeIndex + 1 } } := by
  unfold advance; rw [if_pos h]

theorem advance_upc {s : State} (h : s.upc ≠ 15) : (advance s).upc = s.upc + 1 := by rw [advance_eq h]

/-- The advance leaves the agents as they are, but for the counter of free values. -/
@[simp] theorem advance_transmitter (s : State) : (advance s).env.transmitter = s.env.transmitter := by
  unfold advance; split <;> rfl
@[simp] theorem advance_timerFloor (s : State) : (advance s).env.timerFloor = s.env.timerFloor := by
  unfold advance; split <;> rfl
@[simp] theorem advance_turns (s : State) : (advance s).env.turns = s.env.turns := by
  unfold advance; split <;> rfl
@[simp] theorem readFrame_advance (s : State) : readFrame (advance s) = readFrame s := by simp [readFrame_eq]

/-- FATAL_TX drops the link (spec/60_exceptions.md R222). -/
theorem raise_fatalTx (s : State) :
    raise .fatalTx s = { s with
      fault := 2, faultUpc := s.upc, txBusy := false, handleOwned := false, token := none,
      history := s.history ++ [.fault .fatalTx s.upc] } := rfl

/-- Every other fault writes `FAULT` and `FAULT_UPC` alone (spec/60_exceptions.md R222). -/
theorem raise_other {c : FaultCode} (h : c ≠ .fatalTx) (s : State) :
    raise c s = { s with fault := faultNumber c, faultUpc := s.upc, history := s.history ++ [.fault c s.upc] } := by
  cases c <;> first | rfl | exact absurd rfl h

theorem faultNumber_ne_zero (c : FaultCode) : faultNumber c ≠ 0 := by cases c <;> decide

theorem faultNumber_le_four (c : FaultCode) : (faultNumber c).toNat ≤ 4 := by cases c <;> decide

/-- A fault entry, after the events a micro-op emitted before it, leaves what a raised fault leaves (spec/60_exceptions.md R222). -/
theorem raise_raisedFrom (c : FaultCode) {s s' : State} (before : List Event) (hu : s'.upc = s.upc)
    (hh : s'.history = s.history ++ before) : Safety.RaisedFrom s (raise c s') := by
  refine ⟨?_, by simpa using hu, before, c, ?_, by simp⟩
  · rw [raise_fault]; exact faultNumber_ne_zero c
  · simp [hu, hh]

/-- The timer's answer is at least its bound (spec/42_sequencer.md R171). -/
theorem timerFloor_le_answer (s : State) : s.env.timerFloor ≤ timerAnswer s := Nat.le_max_left _ _

@[simp] theorem afterTimer_timerFloor (s : State) : (afterTimer s).env.timerFloor = timerAnswer s := rfl
@[simp] theorem afterTimer_transmitter (s : State) : (afterTimer s).env.transmitter = s.env.transmitter := rfl
@[simp] theorem afterTimer_turns (s : State) : (afterTimer s).env.turns = s.env.turns := rfl
@[simp] theorem afterAcquire_timerFloor (s : State) : (afterAcquire s).env.timerFloor = s.env.timerFloor := rfl
@[simp] theorem afterAcquire_transmitter (s : State) : (afterAcquire s).env.transmitter = s.env.transmitter := rfl
@[simp] theorem afterAcquire_turns (s : State) : (afterAcquire s).env.turns = s.env.turns := rfl
@[simp] theorem afterEntropy_timerFloor (s : State) : (afterEntropy s).env.timerFloor = s.env.timerFloor := rfl
@[simp] theorem afterEntropy_transmitter (s : State) : (afterEntropy s).env.transmitter = s.env.transmitter := rfl
@[simp] theorem afterEntropy_turns (s : State) : (afterEntropy s).env.turns = s.env.turns := rfl
@[simp] theorem afterTransmit_timerFloor (f : Frame) (s : State) : (afterTransmit f s).env.timerFloor = s.env.timerFloor := rfl
@[simp] theorem afterTransmit_turns (f : Frame) (s : State) : (afterTransmit f s).env.turns = s.env.turns := rfl
@[simp] theorem afterTransmit_transmitter (f : Frame) (s : State) :
    (afterTransmit f s).env.transmitter = transmitterAfter f (transmitAnswer f s) s.env.transmitter := rfl
@[simp] theorem transmitterTurn_timerFloor (a : WaitAnswer) (s : State) :
    (transmitterTurn a s).env.timerFloor = s.env.timerFloor := by unfold transmitterTurn; split <;> rfl
@[simp] theorem retarget_timerFloor (s : State) : (retarget s).env.timerFloor = s.env.timerFloor := by
  unfold retarget; split <;> rfl
@[simp] theorem retarget_transmitter (s : State) : (retarget s).env.transmitter = s.env.transmitter := by
  unfold retarget; split <;> rfl
@[simp] theorem afterChoice_timerFloor (s : State) : (afterChoice s).env.timerFloor = s.env.timerFloor := by
  unfold afterChoice; split <;> (try split) <;> rfl
@[simp] theorem afterChoice_transmitter (s : State) : (afterChoice s).env.transmitter = s.env.transmitter := by
  unfold afterChoice; split <;> (try split) <;> rfl

/-- A word of the entropy source has `P_RAND_WIDTH` bits (spec/41_fade_controller.md R142). -/
theorem entropyAnswer_lt (s : State) : entropyAnswer s < 2 ^ s.cfg.randWidth := Nat.mod_lt _ (Nat.two_pow_pos _)

/-- The transmitter's answer reaches WAIT when it answers the token the core holds (spec/42_sequencer.md R174, R195). -/
theorem waitAnswer_eq_some {s : State} {a : WaitAnswer} :
    waitAnswer s = some a ↔ ∃ k, s.env.transmitter = .answered k a ∧ s.token = some k := by
  unfold waitAnswer
  cases h : s.env.transmitter with
  | idle => simp
  | emitting k f => simp
  | answered k b =>
    by_cases ht : s.token = some k
    · simp [ht]
    · simp only [ht, if_false]
      constructor
      · intro h; cases h
      · rintro ⟨k', h1, h2⟩
        cases h1
        exact absurd h2 ht

/-- Colour equality is equality of colours (spec/10_state.md R23). -/
theorem colorEq_iff {c d : Color} : colorEq c d = true ↔ c = d := by
  cases c; cases d
  simp [colorEq, and_assoc]

theorem not_halted_iff {s : State} : halted s = false ↔ s.fault = 0 := by simp [halted]

theorem halted_iff {s : State} : halted s = true ↔ s.fault ≠ 0 := by simp [halted]

/-- Packing loses nothing (spec/30_encoding.md R82, R83). -/
theorem pack_bits (c : Color) :
    (pack c).extractLsb' 16 8 = c.g ∧ (pack c).extractLsb' 8 8 = c.r ∧ (pack c).extractLsb' 0 8 = c.b := by
  refine ⟨?_, ?_, ?_⟩ <;> refine BitVec.eq_of_getLsbD_eq fun i hi => ?_ <;>
    simp only [pack, BitVec.getLsbD_extractLsb', BitVec.getLsbD_append, hi, decide_true, Bool.true_and]
  · rw [if_neg (by omega), if_neg (by omega)]; congr 1; omega
  · rw [if_neg (by omega), if_pos (by omega)]; congr 1; omega
  · rw [if_pos (by omega)]; congr 1; omega

/-- The reduced word is the remainder, as a number (spec/41_fade_controller.md R144). -/
theorem reduceWord_toNat (w : Nat) : (reduceWord w).toNat = w % 255 := by
  have : w % 255 < 255 := Nat.mod_lt _ (by decide)
  simp only [reduceWord, fadeModulus, BitVec.toNat_ofNat]
  omega

end Sys2Proof.Machine
end

