-- ==== Sys2Proof/Laws/Step.lean ====
section
/-! SUPPORT. What one step can do, said once (spec/00_scope.md R4, spec/42_sequencer.md R170). -/

namespace Sys2Proof.Machine

theorem step_eq (s : State) :
    step s = if s.cfg.accepted then takeTurn (nextTurn s) (afterChoice s) else .refused .illFormedConfig := rfl

@[simp] theorem fetch_afterChoice (s : State) : fetch (afterChoice s) = fetch s := by simp [fetch]

@[simp] theorem halted_afterChoice (s : State) : halted (afterChoice s) = halted s := by simp [halted]

@[simp] theorem readFrame_afterChoice (s : State) : readFrame (afterChoice s) = readFrame s := by simp [readFrame_eq]

/-- The choice of a turn changes nothing where the Sequencer goes on unscripted. -/
theorem afterChoice_unscripted {s : State} (h : s.env.turns = []) (hh : holding s = false) : afterChoice s = s := by
  unfold afterChoice; rw [h]; simp [hh]

theorem nextTurn_unscripted {s : State} (h : s.env.turns = []) (hh : holding s = false) : nextTurn s = .sequencer := by
  unfold nextTurn; rw [h]; simp [hh]

theorem nextTurn_scripted {s : State} {t : Turn} {rest : List Turn} (h : s.env.turns = t :: rest) : nextTurn s = t := by
  unfold nextTurn; rw [h]

/-- Every way a step answers a next state. -/
theorem step_next_cases {s t : State} (h : step s = .next t) :
    s.cfg.accepted ∧
      ((nextTurn s = .reset ∧ t = takeReset (afterChoice s)) ∨
       (∃ a, nextTurn s = .transmitter a ∧ t = transmitterTurn a (afterChoice s)) ∨
       (nextTurn s = .sequencer ∧ s.fault = 0 ∧
         ((∃ op, decode (fetch s) = .illegal op ∧ t = raise .illegalOp (afterChoice s)) ∨
          (∃ i, decode (fetch s) = .instr i ∧ exec i (afterChoice s) = .next t)))) := by
  rw [step_eq] at h
  split at h
  · rename_i hc
    refine ⟨hc, ?_⟩
    cases ht : nextTurn s with
    | reset => rw [ht] at h; exact .inl ⟨rfl, (Host.Outcome.next.inj h).symm⟩
    | transmitter a => rw [ht] at h; exact .inr (.inl ⟨a, rfl, (Host.Outcome.next.inj h).symm⟩)
    | sequencer =>
      rw [ht] at h
      simp only [takeTurn, sequencerTurn, halted_afterChoice, fetch_afterChoice] at h
      split at h
      · cases h
      · rename_i hf
        refine .inr (.inr ⟨rfl, not_halted_iff.1 (by simpa using hf), ?_⟩)
        split at h
        · rename_i op hd
          exact .inl ⟨op, hd, (Host.Outcome.next.inj h).symm⟩
        · rename_i i hd
          exact .inr ⟨i, hd, h⟩
  · cases h

/-- A run of no step is the state itself. -/
theorem run_zero (s : State) : Host.Core.run core 0 s = .next s := rfl

/-- A run of a machine, unfolded at its first step. -/
theorem run_step (M : Host.Core) (n : Nat) (s : M.State) :
    Host.Core.run M (n + 1) s =
      match M.step s with
      | .next t    => Host.Core.run M n t
      | .fault r   => .fault r
      | .refused r => .refused r := rfl

/-- A run goes on from its first step, where that answers a next state. -/
theorem run_succ {s t : State} (h : step s = .next t) (n : Nat) : Host.Core.run core (n + 1) s = Host.Core.run core n t := by
  have e := run_step core n s
  rw [show core.step s = .next t from h] at e
  exact e

/-- A run that answers a next state took a first step that does. -/
theorem run_succ_next {s u : State} {n : Nat} (h : Host.Core.run core (n + 1) s = .next u) :
    ∃ t, step s = .next t ∧ Host.Core.run core n t = .next u := by
  cases hs : step s with
  | next t => exact ⟨t, rfl, (run_succ hs n).symm.trans h⟩
  | fault r =>
    have e := run_step core n s
    rw [show core.step s = .fault r from hs] at e
    exact absurd (e.symm.trans h) (fun h => by cases h)
  | refused r =>
    have e := run_step core n s
    rw [show core.step s = .refused r from hs] at e
    exact absurd (e.symm.trans h) (fun h => by cases h)

/-- A Sequencer turn of a running core performs the decoded micro-op. -/
theorem sequencerTurn_instr {s : State} {i : Instr} (hf : s.fault = 0) (hd : decode (fetch s) = .instr i) :
    sequencerTurn s = exec i s := by
  unfold sequencerTurn
  rw [not_halted_iff.2 hf, hd]
  rfl

/-- What the micro-program of spec/30_encoding.md R90 holds at an index it reaches, once and for all indices 0 to 8. -/
theorem microProgram_decodes (u : MicroIndex) (h : u.toNat ≤ 8) :
    (u = 0 ∧ decode (microProgram[u.toNat]'u.isLt) = .instr .init) ∨
    (u = 1 ∧ decode (microProgram[u.toNat]'u.isLt) = .instr (.timechk 5)) ∨
    (u = 2 ∧ decode (microProgram[u.toNat]'u.isLt) = .instr .fade) ∨
    (u = 3 ∧ decode (microProgram[u.toNat]'u.isLt) = .instr .stamp) ∨
    (u = 4 ∧ decode (microProgram[u.toNat]'u.isLt) = .instr .pack) ∨
    (u = 5 ∧ decode (microProgram[u.toNat]'u.isLt) = .instr .encode) ∨
    (u = 6 ∧ decode (microProgram[u.toNat]'u.isLt) = .instr .tx) ∨
    (u = 7 ∧ decode (microProgram[u.toNat]'u.isLt) = .instr .wait) ∨
    (u = 8 ∧ decode (microProgram[u.toNat]'u.isLt) = .instr (.delay 1)) := by
  revert h; revert u; decide

/-- Fetch from that micro-program. -/
theorem fetch_microProgram {s : State} (h : s.rom = microProgram) : fetch s = microProgram[s.upc.toNat]'s.upc.isLt := by
  unfold fetch; simp only [h]

end Sys2Proof.Machine
end

