-- ==== Sys2Proof/Laws/Exec.lean ====
section
/-! SUPPORT. Every way a micro-op can end in a next state, said once: one constructor for each path of each meaning, with what
decides it (spec/30_encoding.md R89 and the rule of each micro-op). -/

namespace Sys2Proof.Machine

/-- `Ends i s t`: the micro-op i, run from s, ends in t along the named path. -/
inductive Ends : Instr → State → State → Prop where
  | initOk (s : State) (h : acquireAnswer s = .ok) :
    Ends .init s (stampTime { afterAcquire s with handleOwned := true })
  | initErr (s : State) (h : acquireAnswer s = .err) : Ends .init s (raise .fatalInit (afterAcquire s))
  | timechkReached (s : State) (tgt : MicroIndex) (last : Nat) (h : s.lastTs = some last)
      (hr : thresholdReached s.cfg last (timerAnswer s) = true) :
    Ends (.timechk tgt) s (advance { afterTimer s with thr := true })
  | timechkNotReached (s : State) (tgt : MicroIndex) (last : Nat) (h : s.lastTs = some last)
      (hr : thresholdReached s.cfg last (timerAnswer s) = false) :
    Ends (.timechk tgt) s (jump tgt { afterTimer s with thr := false })
  | fade (s : State) : Ends .fade s (advance (nudgeState (retarget s)))
  | stamp (s : State) : Ends .stamp s (stampTime s)
  | pack (s : State) : Ends .pack s (advance { s with packed := pack s.cur })
  | encode (s : State) (h : s.txBusy = false) :
    Ends .encode s (advance (writeFrame (encodeFrame s.cfg s.packed) s))
  | encodeBusy (s : State) (h : s.txBusy = true) : Ends .encode s (raise .ownership s)
  | txToken (s : State) (f : Frame) (k : Token) (ho : s.handleOwned = true) (hb : s.txBusy = false)
      (hf : readFrame s = some f) (ha : transmitAnswer f s = .token k) :
    Ends .tx s (advance { afterTransmit f s with token := some k, txBusy := true, handleOwned := false })
  | txErr (s : State) (f : Frame) (ho : s.handleOwned = true) (hb : s.txBusy = false)
      (hf : readFrame s = some f) (ha : transmitAnswer f s = .err) :
    Ends .tx s (raise .fatalTx (emit .txError (afterTransmit f s)))
  | txForbidden (s : State) (h : s.handleOwned = false ∨ s.txBusy = true) : Ends .tx s (raise .ownership s)
  | waitHolds (s : State) (hb : s.txBusy = true) (ha : waitAnswer s = none) : Ends .wait s s
  | waitDone (s : State) (hb : s.txBusy = true) (ha : waitAnswer s = some .done) :
    Ends .wait s (advance { emit .done (afterWait s) with txBusy := false, handleOwned := true, token := none })
  | waitErr (s : State) (hb : s.txBusy = true) (ha : waitAnswer s = some .err) :
    Ends .wait s (raise .fatalTx (emit .txError (afterWait s)))
  | waitIdle (s : State) (hb : s.txBusy = false) : Ends .wait s (raise .ownership s)
  | delay (s : State) (tgt : MicroIndex) : Ends (.delay tgt) s (jump tgt (emit .delay s))

/-- A micro-op that answers a next state ends along one of the paths. -/
theorem exec_next_ends {i : Instr} {s t : State} (h : exec i s = .next t) : Ends i s t := by
  cases i with
  | init =>
    unfold exec execInit at h
    cases ha : acquireAnswer s <;> rw [ha] at h <;> cases h
    · exact .initOk s ha
    · exact .initErr s ha
  | timechk tgt =>
    unfold exec execTimechk at h
    cases hl : s.lastTs with
    | none => rw [hl] at h; cases h
    | some last =>
      rw [hl] at h; cases h
      unfold checkThreshold
      cases hr : thresholdReached s.cfg last (timerAnswer s)
      · exact .timechkNotReached s tgt last hl hr
      · exact .timechkReached s tgt last hl hr
  | fade => cases h; exact .fade s
  | stamp => cases h; exact .stamp s
  | pack => cases h; exact .pack s
  | encode =>
    unfold exec execEncode at h
    cases hb : s.txBusy <;> rw [hb] at h <;> cases h
    · exact .encode s hb
    · exact .encodeBusy s hb
  | tx =>
    unfold exec execTx at h
    simp only at h
    split at h
    · rename_i hx; cases h; exact .txForbidden s (by simpa [Machine.txForbidden] using hx)
    · rename_i hx
      have hx : s.handleOwned = true ∧ s.txBusy = false := by simpa [Machine.txForbidden] using hx
      split at h
      · cases h
      · rename_i f hf
        cases h
        unfold issueFrame
        cases ha : transmitAnswer f s with
        | token k => exact .txToken s f k hx.1 hx.2 hf ha
        | err => exact .txErr s f hx.1 hx.2 hf ha
  | wait =>
    unfold exec execWait at h
    simp only at h
    split at h
    · rename_i hb
      split at h
      · rename_i hw; cases h; exact .waitHolds _ hb hw
      · rename_i a hw
        cases h
        cases a
        · exact .waitDone _ hb hw
        · exact .waitErr _ hb hw
    · rename_i hb; cases h; exact .waitIdle s (by simpa using hb)
  | delay tgt => cases h; exact .delay s tgt

/-- FADE leaves what the pure fade step gives on its colours and the next three words (spec/41_fade_controller.md R151). -/
theorem exec_fade_step {s t : State} (h : exec .fade s = .next t) :
    (t.cur, t.tgt) =
      fadeStep s.cur s.tgt (entropyAnswer s) (entropyAnswer (afterEntropy s)) (entropyAnswer (afterEntropy (afterEntropy s))) := by
  cases h
  simp only [advance_cur, advance_tgt, fadeStep]
  unfold retarget
  split <;> rfl

end Sys2Proof.Machine
end

