-- ==== Sys2Proof/Laws/PerInstr.lean ====
section
/-! SUPPORT. Statements for all micro-ops, one lemma for each constructor: the encoded word of a micro-op is well-formed and its
fields are the micro-op's `OP` and `TGT` (spec/30_encoding.md R88, R89). -/

namespace Sys2Proof.Laws.Encoding

def Statement (i : Instr) : Prop :=
  wordWellFormed (encode i) ∧ opField (encode i) = opcodeOf i ∧ tgtField (encode i) = tgtOf i

/-- The fields of a word put together from `TGT` and `OP`. -/
theorem fields_of_append (t op : BitVec 4) : opField (t ++ op) = op ∧ tgtField (t ++ op) = t := by
  constructor <;> refine BitVec.eq_of_getLsbD_eq fun i hi => ?_ <;>
    simp only [opField, tgtField, BitVec.getLsbD_extractLsb', BitVec.getLsbD_append, hi, decide_true, Bool.true_and]
  · rw [if_pos (by omega)]; congr 1; omega
  · rw [if_neg (by omega)]; congr 1; omega

/-- The whole statement follows from the micro-op's own fields. -/
theorem statement_of_fields (i : Instr) (h : (opcodeOf i).toNat ≤ 8 ∧ (opcodeOf i ≠ 1 → opcodeOf i ≠ 8 → tgtOf i = 0)) :
    Statement i := by
  have f := fields_of_append (tgtOf i) (opcodeOf i)
  refine ⟨?_, f.1, f.2⟩
  unfold wordWellFormed opAssigned tgtUnreserved encode
  rw [f.1, f.2]
  exact h

theorem init : Statement .init := statement_of_fields _ (by decide)
theorem timechk (tgt : MicroIndex) : Statement (.timechk tgt) :=
  statement_of_fields _ ⟨Nat.le_of_ble_eq_true rfl, fun h => absurd rfl h⟩
theorem fade : Statement .fade := statement_of_fields _ (by decide)
theorem stamp : Statement .stamp := statement_of_fields _ (by decide)
theorem pack : Statement .pack := statement_of_fields _ (by decide)
theorem encode : Statement .encode := statement_of_fields _ (by decide)
theorem tx : Statement .tx := statement_of_fields _ (by decide)
theorem wait : Statement .wait := statement_of_fields _ (by decide)
theorem delay (tgt : MicroIndex) : Statement (.delay tgt) :=
  statement_of_fields _ ⟨Nat.le_of_ble_eq_true rfl, fun _ h => absurd rfl h⟩

end Sys2Proof.Laws.Encoding
end

