-- ==== Sys2Proof/Tests/Slice0.lean ====
section
/-! SUPPORT. Tests with expected results from spec/95_test_vectors.md and the examples of the rules, the well-formedness smoke,
and for each statement with hypotheses a witness that meets them. -/

namespace Sys2Proof.Tests

open Sys2Proof Sys2Proof.Machine Sys2Proof.Safety

/-! ### Helpers -/

/-- The next state of an outcome, when there is one. -/
def nextOf (o : Host.Outcome State Fault Refusal) : Option State :=
  match o with
  | .next t    => some t
  | .fault _   => none
  | .refused _ => none

/-- The reset state at an index of the micro-program. -/
def at_ (u : MicroIndex) : State := { State.reset with upc := u }

/-- The record of this hardware in LEGACY mode. -/
def legacy : Config := { Config.thisHardware with tickMode := .legacy }

/-- A state at FADE with the given colours and entropy words (95 section 2.5). -/
def fading (c t : Color) (ws : List Nat) : State :=
  { at_ 2 with cur := c, tgt := t, env := { Env.start with words := ws } }

/-- A state at TIMECHK with `LAST_TS` an earlier answer, and the next instant (95 section 2.6). -/
def checking (last now : Nat) : State :=
  { at_ 1 with lastTs := some last, env := { Env.start with timerFloor := last, instants := [now] } }

/-- A state at TX with the handle, the frame of black and the transmitter's answer (95 section 2.9). -/
def sending (a : TransmitAnswer) : State :=
  { at_ 6 with
      lastTs := some 0, handleOwned := true, frame := storedFrame (encodeFrame Config.thisHardware 0),
      env := { Env.start with transmits := [a] } }

/-- A state at WAIT with token 7 in flight, the transmitter as given (95 section 2.9). -/
def waiting (x : Transmitter) : State :=
  { at_ 7 with
      lastTs := some 0, txBusy := true, token := some 7, frame := storedFrame (encodeFrame Config.thisHardware 0),
      env := { Env.start with transmitter := x } }

/-- The transmitter with the frame of black under way. -/
def emitting7 : Transmitter := .emitting 7 (encodeFrame Config.thisHardware 0)

/-- A state that the given turns move. -/
def moved (ts : List Turn) (s : State) : State := { s with env := { s.env with turns := ts } }

/-- A state whose ROM holds one word at the index fetched next. -/
def holdingWord (w : MicroWord) (s : State) : State := { s with rom := s.rom.set s.upc.toNat w s.upc.isLt }

/-! ### Decoding: words written out as `{TGT, OP}` (30_encoding.md R88, R89; 95 section 2.11) -/

theorem test_decode_init : decode 0b0000_0000 = .instr .init := by decide
theorem test_decode_timechk : decode 0b0101_0001 = .instr (.timechk 5) := by decide
theorem test_decode_timechk_last_index : decode 0b1111_0001 = .instr (.timechk 15) := by decide
theorem test_decode_fade : decode 0b0000_0010 = .instr .fade := by decide
theorem test_decode_fade_ignores_tgt : decode 0b0011_0010 = .instr .fade := by decide
theorem test_decode_stamp : decode 0b0000_0011 = .instr .stamp := by decide
theorem test_decode_pack : decode 0b0000_0100 = .instr .pack := by decide
theorem test_decode_encode : decode 0b0000_0101 = .instr .encode := by decide
theorem test_decode_tx : decode 0b0000_0110 = .instr .tx := by decide
theorem test_decode_wait : decode 0b0000_0111 = .instr .wait := by decide
theorem test_decode_delay : decode 0b0001_1000 = .instr (.delay 1) := by decide
theorem test_decode_first_reserved : decode 0b0000_1001 = .illegal 9 := by decide
theorem test_decode_last_reserved : decode 0b1111_1111 = .illegal 15 := by decide
theorem test_listing : listingAt 1 (.timechk 5) = "1: TIMECHK 5" := by decide
theorem test_expand : expand .update = [.fade, .stamp, .pack] ∧ expand .send = [.encode, .tx, .wait] := by decide

/-! ### Well-formedness: one ill-formed term for each check (10_state.md R33; 95 V-TK-4, V-TK-5) -/

theorem test_wf_clock : ¬ ({ Config.thisHardware with clkMhz := 0 } : Config).clockRuns := by decide
theorem test_wf_legacy_tick : ¬ ({ legacy with clkMhz := 1001 } : Config).legacyTickNonzero := by decide
theorem test_wf_high_times : ¬ ({ Config.thisHardware with t0h := 640 } : Config).highTimesOrdered := by decide
/-- T0H = 1 ns rounds to 0 ticks. -/
theorem test_wf_tick_zero : ¬ ({ Config.thisHardware with t0h := 1 } : Config).ticksFit := by decide
/-- 1250 ns at 65535 MHz is more than 32767 ticks. -/
theorem test_wf_tick_too_long : ¬ ({ Config.thisHardware with clkMhz := 65535 } : Config).ticksFit := by decide
/-- 638 and 640 ns both round to 51 ticks. -/
theorem test_wf_profiles : ¬ ({ Config.thisHardware with t0h := 638 } : Config).profilesDiffer := by decide
theorem test_wf_literals : ¬ ({ Config.thisHardware with randMod := 256 } : Config).literalsKept := by decide
theorem test_wf_timer_unit : ¬ ({ Config.thisHardware with timerTicksPerMs := 0 } : Config).timerUnitPositive := by decide
theorem test_wf_op : ¬ opAssigned 0x09 := by decide
theorem test_wf_tgt : ¬ tgtUnreserved 0x32 ∧ wordWellFormed 0x51 ∧ wordWellFormed 0x18 := by decide
theorem test_build_refuses :
    build { legacy with clkMhz := 1001 } microProgram Env.start = .refused .illFormedConfig := rfl

/-! ### Ticks, words and layouts (95 sections 2.1, 2.2, 2.4) -/

theorem test_ticks : ticks Config.thisHardware = ⟨51, 49, 26, 74⟩ ∧ ticks legacy = ⟨53, 50, 26, 77⟩ := by decide
theorem test_words : wordBit1 Config.thisHardware = 0x00318033 ∧ wordBit0 legacy = 0x004D801A := by decide
theorem test_decode_entry :
    decodeEntry Config.thisHardware 0x004A801A = .bit false ∧ decodeEntry Config.thisHardware 0x00328035 = .invalid := by
  decide
theorem test_reduce : [254, 255, 256, 509, 510, 0xDEADBEEF].map reduceWord = [254, 0, 1, 254, 0, 59] := by decide
theorem test_waveform_starts :
    (waveform (encodeFrame Config.thisHardware 0x800000)).take 3 = [⟨.high, 51⟩, ⟨.low, 49⟩, ⟨.high, 26⟩] := by decide
theorem test_frame_bytes_little : entryBytes .little 0x00318033 = [0x33, 0x80, 0x31, 0x00] := by decide

/-! ### PACK, ENCODE (95 sections 2.2, 2.3) -/

/-- V-PK-6. -/
theorem test_pack : (nextOf (exec .pack { at_ 4 with cur := ⟨0x12, 0x34, 0x56⟩ })).map (fun t => (t.packed, t.upc)) =
    some (0x341256, 5) := by decide
/-- V-EN-5: the first eight entries and the terminator. -/
theorem test_encode : (nextOf (exec .encode { at_ 5 with packed := 0xA50000 })).map
      (fun t => (t.frame.toList.take 8, t.frame[24], t.upc)) =
    some ([0x00318033, 0x004A801A, 0x00318033, 0x004A801A, 0x004A801A, 0x00318033, 0x004A801A, 0x00318033].map some,
      some 0x00000000, 6) := by decide
/-- V-EN-10. -/
theorem test_encode_legacy : (nextOf (exec .encode { at_ 5 with packed := 0x800000, cfg := legacy })).map
      (fun t => (t.frame[0], t.frame[1], t.frame[23])) =
    some (some 0x00328035, some 0x004D801A, some 0x004D801A) := by decide

/-! ### FADE (95 section 2.5) -/

/-- V-FD-2. -/
theorem test_fade_retargets :
    (nextOf (exec .fade (fading ⟨5, 5, 5⟩ ⟨5, 5, 5⟩ [0x12345678, 0xDEADBEEF, 0xCAFEBABE]))).map
      (fun t => (t.cur, t.tgt, t.history)) =
    some (⟨6, 6, 6⟩, ⟨21, 59, 67⟩, [.reset, .draw 0x12345678, .draw 0xDEADBEEF, .draw 0xCAFEBABE]) := by decide
/-- V-FD-5. -/
theorem test_fade_lanes :
    (nextOf (exec .fade (fading ⟨255, 0, 128⟩ ⟨0, 255, 128⟩ []))).map (fun t => (t.cur, t.tgt, t.upc)) =
    some (⟨254, 1, 128⟩, ⟨0, 255, 128⟩, 3) := by decide
/-- V-L1-7: the pure function. -/
theorem test_fade_step_pure : fadeStep ⟨0, 0, 0⟩ ⟨0, 0, 0⟩ 0 255 510 = (⟨0, 0, 0⟩, ⟨0, 0, 0⟩) := by decide

/-! ### INIT, TIMECHK, STAMP (95 sections 2.6 to 2.8) -/

/-- V-IN-1. -/
theorem test_init_ok :
    (nextOf (exec .init { at_ 0 with env := { Env.start with acquires := [.ok], instants := [5000] } })).map
      (fun t => (t.handleOwned, t.lastTs, t.upc, t.history)) =
    some (true, some 5000, 1, [.reset, .acquire .ok, .time 5000]) := by decide
/-- V-IN-2. -/
theorem test_init_err : (nextOf (exec .init { at_ 0 with env := { Env.start with acquires := [.err] } })).map
      (fun t => (t.fault, t.faultUpc, t.upc, t.lastTs, t.history)) =
    some (1, 0, 0, none, [.reset, .acquire .err, .fault .fatalInit 0]) := by decide
/-- V-TC-4. -/
theorem test_timechk_below : (nextOf (exec (.timechk 5) (checking 5000 24999))).map (fun t => (t.thr, t.upc)) =
    some (false, 5) := by decide
/-- V-TC-5. -/
theorem test_timechk_reached : (nextOf (exec (.timechk 5) (checking 5000 25000))).map (fun t => (t.thr, t.upc)) =
    some (true, 2) := by decide
/-- V-ST-1. -/
theorem test_stamp :
    (nextOf (exec .stamp { at_ 3 with env := { Env.start with timerFloor := 26000, instants := [26003] } })).map
      (fun t => (t.lastTs, t.upc)) = some (some 26003, 4) := by decide
/-- 42_sequencer.md R171: an instant below an earlier answer is not one. -/
theorem test_stamp_monotone :
    (nextOf (exec .stamp { at_ 3 with env := { Env.start with timerFloor := 26000, instants := [7] } })).map State.lastTs =
    some (some 26000) := by decide

/-! ### TX, WAIT, DELAY (95 sections 2.9, 2.10) -/

/-- V-TX-1. -/
theorem test_tx_token : (nextOf (exec .tx (sending (.token 7)))).map
      (fun t => (t.token, t.txBusy, t.handleOwned, t.upc, t.history)) =
    some (some 7, true, false, 7, [.reset, .transmit (encodeFrame Config.thisHardware 0)]) := by decide
/-- V-TX-2. -/
theorem test_tx_err : (nextOf (exec .tx (sending .err))).map (fun t => (t.fault, t.faultUpc, t.upc, t.handleOwned, t.history)) =
    some (2, 6, 6, false, [.reset, .transmit (encodeFrame Config.thisHardware 0), .txError, .fault .fatalTx 6]) := by decide
/-- V-WT-1. -/
theorem test_wait_done : (nextOf (exec .wait (waiting (.answered 7 .done)))).map
      (fun t => (t.txBusy, t.handleOwned, t.token, t.upc, t.history)) = some (false, true, none, 8, [.reset, .done]) := by decide
/-- V-WT-2. -/
theorem test_wait_err : (nextOf (exec .wait (waiting (.answered 7 .err)))).map
      (fun t => (t.fault, t.faultUpc, t.handleOwned, t.history)) =
    some (2, 7, false, [.reset, .txError, .fault .fatalTx 7]) := by decide
/-- V-DL-1. -/
theorem test_delay : (nextOf (exec (.delay 1) (at_ 8))).map (fun t => (t.upc, t.history)) = some (1, [.reset, .delay]) := by
  decide

/-! ### Steps (95 P6, P8; V-RS-1) -/

/-- P6: the second TX keeps the link. -/
theorem test_second_tx : (nextOf (exec .tx { waiting emitting7 with upc := 3 })).map
      (fun t => (t.fault, t.faultUpc, t.txBusy, t.token)) = some (4, 3, true, some 7) := by decide
/-- P8. -/
theorem test_illegal_word : (nextOf (step (holdingWord 0x09 { at_ 1 with handleOwned := true }))).map
      (fun t => (t.fault, t.faultUpc, t.upc, t.handleOwned)) = some (3, 1, 1, true) := by decide
theorem test_halted_has_no_step : step { at_ 6 with fault := 2 } = .fault .halted := rfl
/-- V-RS-1 at a hold at WAIT. -/
theorem test_reset_at_wait : (nextOf (step (moved [.reset] (waiting emitting7)))).map
      (fun t => (t.upc, t.token, t.lastTs, t.env.transmitter, t.history)) =
    some (0, none, none, .idle, [.reset, .reset]) := by decide
theorem test_placed_word_runs : nextOf (step (State.reset.withFetchWord 8 0x13)) =
    nextOf (exec .stamp (holdingWord 0x13 State.reset)) := rfl

/-! ### Witnesses: states and operands that meet the hypotheses of each statement, clause by clause -/

theorem witness_DecodeInvertsEncode : wordWellFormed 0x00 ∧ wordWellFormed 0xF8 := by decide
theorem witness_DecoderFollowsOpcodeMap :
    (∀ n : Fin 9, (BitVec.ofNat 8 n.val).extractLsb' 0 4 = BitVec.ofNat 4 n.val) ∧
    9 ≤ ((0x09 : MicroWord).extractLsb' 0 4).toNat ∧ 9 ≤ ((0xFF : MicroWord).extractLsb' 0 4).toNat := by decide
theorem witness_PackAndUnpackAreInverse : pack ⟨255, 0, 0⟩ = pack (unpack 0x00FF00) := by decide
theorem witness_ExactProfilesTakeOnePeriod :
    Config.thisHardware.tickMode = .exact ∧ Config.thisHardware.highTimesOrdered := by decide
theorem witness_LegacyDividesByTruncatedTick : legacy.tickMode = .legacy := rfl

/-- For ConstantWords, FrameEntriesFollowSourceBits, EntryWordClasses, FrameRoundTrip, FrameWaveform and IllFormedRecordRefused. -/
theorem witness_wellFormed :
    Config.thisHardware.wellFormed ∧ legacy.wellFormed ∧ Config.thisHardware.timerTicksPerMs = 1000 := by decide
theorem witness_FrameEntriesFollowSourceBits :
    (0x800000 : Packed).getLsbD (23 - 0) = true ∧ (0x800000 : Packed).getLsbD (23 - 23) = false := by decide
theorem witness_IllFormedRecordRefused : ¬ ({ legacy with clkMhz := 1001 } : Config).wellFormed := by decide
theorem witness_NoStepWithIllFormedRecord :
    ¬ ({ State.reset with cfg := { legacy with clkMhz := 1001 } } : State).cfg.wellFormed ∧
    ({ State.reset with cfg := { Config.thisHardware with timerTicksPerMs := 0 } } : State).cfg.timerTicksPerMs = 0 ∧
    ∃ t, step (moved [.reset] State.reset) = .next t := ⟨by decide, rfl, _, rfl⟩

theorem witness_EncodeWritesWholeFrame : (at_ 5).txBusy = false ∧ (waiting emitting7).txBusy = true := ⟨rfl, rfl⟩
theorem witness_PackAndEncodeIdempotent :
    (∃ t u, exec .pack (at_ 4) = .next t ∧ exec .pack t = .next u) ∧
    ∃ t u, (at_ 5).txBusy = false ∧ exec .encode (at_ 5) = .next t ∧ exec .encode t = .next u :=
  ⟨⟨_, _, rfl, rfl⟩, _, _, rfl, rfl, rfl⟩

theorem witness_FadeRetargetsThenNudges :
    (fading ⟨255, 0, 128⟩ ⟨0, 255, 128⟩ []).cur ≠ (fading ⟨255, 0, 128⟩ ⟨0, 255, 128⟩ []).tgt ∧
    (fading ⟨5, 5, 5⟩ ⟨5, 5, 5⟩ []).cur = (fading ⟨5, 5, 5⟩ ⟨5, 5, 5⟩ []).tgt ∧
    (0 : Channel) < 255 ∧ (128 : Channel) = 128 := by decide
/-- For FadeDrawsNoneOrThree and DrawnTargetNever255: a step from unequal and one from equal colours. -/
theorem witness_FadeDrawsNoneOrThree :
    (∃ t, exec .fade (fading ⟨0, 0, 0⟩ ⟨10, 0, 0⟩ []) = .next t) ∧
    (fading ⟨0, 0, 0⟩ ⟨10, 0, 0⟩ []).cur ≠ (fading ⟨0, 0, 0⟩ ⟨10, 0, 0⟩ []).tgt ∧
    (∃ t, exec .fade (fading ⟨5, 5, 5⟩ ⟨5, 5, 5⟩ [254, 255, 256]) = .next t) ∧
    (fading ⟨5, 5, 5⟩ ⟨5, 5, 5⟩ [254, 255, 256]).cur = (fading ⟨5, 5, 5⟩ ⟨5, 5, 5⟩ [254, 255, 256]).tgt :=
  ⟨⟨_, rfl⟩, by decide, ⟨_, rfl⟩, rfl⟩
/-- V-FD-4. -/
theorem witness_RedrawOfCurrentColourHolds :
    (fading ⟨21, 59, 67⟩ ⟨21, 59, 67⟩ [21, 59, 67]).cur = (fading ⟨21, 59, 67⟩ ⟨21, 59, 67⟩ [21, 59, 67]).tgt ∧
    (nextOf (exec .fade (fading ⟨21, 59, 67⟩ ⟨21, 59, 67⟩ [21, 59, 67]))).map State.tgt = some ⟨21, 59, 67⟩ := by decide
/-- V-L1-6: nine steps after the first find the colours unequal; here the first two. -/
theorem witness_FadeConvergesLinearly :
    ∀ (i : Nat) (u : State), 1 ≤ i → i < 3 → fadeSteps i (fading ⟨0, 0, 0⟩ ⟨10, 0, 0⟩ []) = .next u → u.cur ≠ u.tgt := by
  intro i u h1 h3 h
  obtain rfl | rfl : i = 1 ∨ i = 2 := by omega
  all_goals cases h; decide
theorem witness_CurrentChannelStaysWithinTargets :
    (nextOf (exec .fade (fading ⟨5, 5, 5⟩ ⟨5, 5, 5⟩ [254, 255, 256]))).map State.tgt = some ⟨254, 0, 1⟩ ∧
    (0 : Channel) ≤ 5 ∧ (5 : Channel) ≤ 254 ∧ (254 : Channel) ≠ 5 := by decide

theorem witness_InitAcquiresAndStamps : acquireAnswer { at_ 0 with env := { Env.start with acquires := [.ok] } } = .ok := rfl
theorem witness_InitFailureIsFatal : acquireAnswer { at_ 0 with env := { Env.start with acquires := [.err] } } = .err := rfl
/-- For TimechkSetsThresholdFlag and ThresholdAtTwentyMilliseconds: V-TC-4 and V-TC-5, at both sides of the threshold. -/
theorem witness_TimechkSetsThresholdFlag :
    (checking 5000 24999).lastTs = some 5000 ∧ TimestampAnswered (checking 5000 24999) ∧
    TimestampAnswered (checking 5000 25000) ∧ (checking 5000 25000).cfg.wellFormed ∧
    (checking 5000 25000).cfg.timerTicksPerMs = 1000 ∧
    (nextOf (exec (.timechk 5) (checking 5000 24999))).map State.thr = some false ∧
    (nextOf (exec (.timechk 5) (checking 5000 25000))).map State.thr = some true :=
  ⟨rfl, fun _ h => by cases h; exact Nat.le_refl _, fun _ h => by cases h; exact Nat.le_refl _, by decide, rfl, by decide,
    by decide⟩
theorem witness_ReadWithoutValueStops :
    (at_ 1).lastTs = none ∧ ({ at_ 6 with handleOwned := true } : State).handleOwned = true ∧ (at_ 6).txBusy = false ∧
    (at_ 6).frame[(0 : Fin 25)] = none ∧ (at_ 6).frame[(24 : Fin 25)] = none := by decide

theorem witness_TxHandsFrameOver :
    (sending (.token 7)).handleOwned = true ∧ (sending (.token 7)).txBusy = false ∧
    (∀ i : Fin 25, (sending (.token 7)).frame[i] = some (encodeFrame Config.thisHardware 0)[i]) ∧
    transmitAnswer (encodeFrame Config.thisHardware 0) (sending (.token 7)) = .token 7 := by decide
theorem witness_TxErrorIsFatal :
    (sending .err).handleOwned = true ∧ (sending .err).txBusy = false ∧
    (∀ i : Fin 25, (sending .err).frame[i] = some (encodeFrame Config.thisHardware 0)[i]) ∧
    transmitAnswer (encodeFrame Config.thisHardware 0) (sending .err) = .err := by decide
theorem witness_OwnershipViolationsFault :
    (at_ 6).handleOwned = false ∧ (waiting emitting7).txBusy = true ∧ (at_ 7).txBusy = false := ⟨rfl, rfl, rfl⟩
theorem witness_WaitTakesHandleBack :
    (waiting (.answered 7 .done)).txBusy = true ∧ (waiting (.answered 7 .done)).token = some 7 ∧
    (waiting (.answered 7 .done)).env.transmitter = .answered 7 .done := ⟨rfl, rfl, rfl⟩
theorem witness_WaitErrorIsFatal :
    (waiting (.answered 7 .err)).txBusy = true ∧ (waiting (.answered 7 .err)).token = some 7 ∧
    (waiting (.answered 7 .err)).env.transmitter = .answered 7 .err := ⟨rfl, rfl, rfl⟩
theorem witness_WaitHoldsUntilAnswered :
    let s := moved (List.replicate 3 .sequencer) (waiting emitting7)
    s.txBusy = true ∧ (∀ k a, s.token = some k → s.env.transmitter ≠ .answered k a) ∧
    s.cfg.accepted ∧ s.fault = 0 ∧ decode (fetch s) = .instr .wait ∧ s.env.turns = List.replicate 3 .sequencer :=
  ⟨rfl, fun _ _ _ h => (by cases h), by decide, rfl, by decide, rfl⟩

theorem witness_StepRunsDecodedMicroOp :
    (at_ 8).cfg.accepted ∧ (at_ 8).fault = 0 ∧ decode ((at_ 8).rom[(at_ 8).upc.toNat]'(at_ 8).upc.isLt) = .instr (.delay 1) ∧
    (at_ 8).env.turns = [] ∧ holding (at_ 8) = false ∧ (moved [.sequencer] (at_ 8)).env.turns = [.sequencer] := by decide
theorem witness_PlacedWordRunsNext :
    State.reset.cfg.accepted ∧ State.reset.fault = 0 ∧ decodeTableWord 8 0x97 = some .wait := by decide
theorem witness_ReservedOpcodeRaisesIllegalOp :
    (at_ 9).cfg.accepted ∧ (at_ 9).fault = 0 ∧ (at_ 9).env.turns = [] ∧
    9 ≤ (((at_ 9).rom[(at_ 9).upc.toNat]'(at_ 9).upc.isLt).extractLsb' 0 4).toNat ∧
    9 ≤ (((holdingWord 0x09 (at_ 1)).rom[1]).extractLsb' 0 4).toNat ∧
    (moved [.sequencer, .reset] (holdingWord 0x09 (at_ 1))).env.turns = .sequencer :: [.reset] := by decide
theorem witness_OnlyResetLeavesHalted :
    ({ at_ 6 with fault := 2 } : State).cfg.accepted ∧ ({ at_ 6 with fault := 2 } : State).fault ≠ 0 ∧
    ({ at_ 6 with fault := 2 } : State).env.turns = [] ∧
    (moved [.sequencer] { at_ 6 with fault := 2 }).env.turns = [.sequencer] ∧
    (moved [.transmitter .done] { at_ 6 with fault := 2 }).env.turns = [.transmitter .done] ∧
    ∃ t, step (moved [.reset] { at_ 6 with fault := 2 }) = .next t ∧ t.fault = 0 :=
  ⟨by decide, by decide, rfl, rfl, rfl, _, rfl, rfl⟩
theorem witness_ResetTakenFromAnyState :
    (moved [.reset] (waiting emitting7)).cfg.accepted ∧ (moved [.reset] (waiting emitting7)).env.turns = .reset :: [] :=
  ⟨by decide, rfl⟩
theorem witness_TransmitterAnswersPendingTokenOnce :
    (moved [.transmitter .err] (waiting emitting7)).cfg.accepted ∧
    (moved [.transmitter .err] (waiting emitting7)).env.turns = .transmitter .err :: [] ∧
    (waiting emitting7).env.transmitter = .emitting 7 (encodeFrame Config.thisHardware 0) ∧
    ∀ k f, (waiting (.answered 7 .done)).env.transmitter ≠ .emitting k f :=
  ⟨by decide, rfl, rfl, fun _ _ h => (by cases h)⟩

theorem witness_FaultsArePrecise :
    (∃ t, exec .wait (at_ 7) = .next t ∧ t.fault ≠ 0 ∧ t.fault ≠ 2) ∧
    ∃ t, exec .tx (sending .err) = .next t ∧ t.fault ≠ 0 ∧ t.fault = 2 := ⟨⟨_, rfl, by decide, by decide⟩, _, rfl, by decide, rfl⟩
theorem witness_DatapathMicroOpsRaiseNothing :
    (∃ t, exec .fade (fading ⟨0, 0, 0⟩ ⟨10, 0, 0⟩ []) = .next t) ∧ (∃ t, exec .pack (at_ 4) = .next t) ∧
    (∃ t, exec .stamp (at_ 3) = .next t) ∧ (∃ t, exec (.timechk 5) (checking 5000 25000) = .next t) ∧
    ∃ t, exec (.delay 1) { at_ 8 with history := [.fault .fatalTx 6] } = .next t ∧ .fault .fatalTx 6 ∈ t.history :=
  ⟨⟨_, rfl⟩, ⟨_, rfl⟩, ⟨_, rfl⟩, ⟨_, rfl⟩, _, rfl, by decide⟩
theorem witness_OnlyNamedMicroOpsWrite :
    (∃ t, exec .pack (at_ 4) = .next t) ∧ (∃ t, exec .encode (at_ 5) = .next t) ∧
    ∃ t, exec .tx (sending .err) = .next t ∧ t.fault ≠ (sending .err).fault := ⟨⟨_, rfl⟩, ⟨_, rfl⟩, _, rfl, by decide⟩
/-- An increment at 0, at 14 and by TIMECHK; a target by TIMECHK and by DELAY; a fault at index 0 and at 6; a hold of WAIT. -/
theorem witness_UpcSetInThreeWays :
    (nextOf (exec .pack (at_ 0))).map State.upc = some 1 ∧ (nextOf (exec .pack (at_ 14))).map State.upc = some 15 ∧
    (nextOf (exec (.timechk 5) (checking 5000 25000))).map (fun t => (t.upc, t.thr)) = some (2, true) ∧
    (nextOf (exec (.timechk 5) (checking 5000 24999))).map (fun t => (t.upc, t.thr)) = some (5, false) ∧
    (nextOf (exec (.delay 1) (at_ 14))).map State.upc = some 1 ∧
    (nextOf (exec .init { at_ 0 with env := { Env.start with acquires := [.err] } })).map (fun t => (t.upc, t.fault)) =
      some (0, 1) ∧
    (nextOf (exec .tx (sending .err))).map (fun t => (t.upc, t.fault)) = some (6, 2) ∧
    nextOf (exec .wait (waiting emitting7)) = some (waiting emitting7) ∧
    (at_ 0).upc ≠ 15 ∧ (at_ 14).upc ≠ 15 ∧ (at_ 6).upc ≠ 15 :=
  ⟨by decide, by decide, by decide, by decide, by decide, by decide, by decide, rfl, by decide, by decide, by decide⟩

/-- For ParametersNeverWritten and HistoryOnlyGrows: a step of a micro-op, and a reset. -/
theorem witness_steps :
    (∃ t, step (at_ 8) = .next t) ∧ ∃ t, step (moved [.reset] (at_ 8)) = .next t ∧ .reset ∈ [Event.reset] :=
  ⟨⟨_, rfl⟩, _, rfl, by decide⟩
theorem witness_FaultCodeStaysLegal : FaultCodeLegal (at_ 7) ∧ ∃ t, step (at_ 7) = .next t := ⟨by decide, _, rfl⟩
theorem witness_TimestampStaysAnswered :
    TimestampAnswered (checking 5000 25000) ∧ (∃ t, step (checking 5000 25000) = .next t ∧ t.lastTs = some 5000) :=
  ⟨fun _ h => by cases h; exact Nat.le_refl _, _, rfl, rfl⟩
theorem witness_ColourRangeKept :
    ColorRange (fading ⟨254, 0, 254⟩ ⟨254, 0, 0⟩ []) ∧ ∃ t, step (fading ⟨254, 0, 254⟩ ⟨254, 0, 0⟩ []) = .next t :=
  ⟨⟨by unfold channelsAtMost254; decide, by unfold channelsAtMost254; decide, by unfold channelsAtMost254; decide,
    by unfold channelsAtMost254; decide⟩, _, rfl⟩

/-- A frame that was stored reads whole. -/
theorem sending_reads (a : TransmitAnswer) : readFrame (sending a) = some (encodeFrame Config.thisHardware 0) :=
  frameValues_storedFrame _
theorem waiting_reads (x : Transmitter) : readFrame (waiting x) = some (encodeFrame Config.thisHardware 0) :=
  frameValues_storedFrame _

theorem witness_FrameInFlightStaysKept :
    FrameInFlightKept (moved [.sequencer] (waiting emitting7)) ∧ ∃ t, step (moved [.sequencer] (waiting emitting7)) = .next t :=
  ⟨fun k f h _ => by cases h; exact waiting_reads emitting7, _, rfl⟩

/-- A state at WAIT, token 7 in flight, keeps the invariant of the micro-program. -/
theorem waiting_inv : MicroProgramInv (waiting emitting7) where
  fixedRom := rfl
  index    := by decide
  code     := .inl rfl
  start    := fun _ h => absurd h (by decide)
  owner    := fun _ _ => ⟨fun h => absurd rfl h, fun _ => ⟨rfl, rfl, 7, rfl, .inl ⟨_, rfl, waiting_reads emitting7⟩⟩⟩
  stamped  := fun _ _ => ⟨0, rfl, Nat.le_refl _⟩
  framed   := fun _ _ => waiting_reads emitting7
  packed   := fun _ _ _ => by decide

/-- So does one at TX. -/
theorem sending_inv : MicroProgramInv (sending (.token 7)) where
  fixedRom := rfl
  index    := by decide
  code     := .inl rfl
  start    := fun _ h => absurd h (by decide)
  owner    := fun _ _ => ⟨fun _ => ⟨rfl, rfl, rfl⟩, fun h => absurd h (by decide)⟩
  stamped  := fun _ _ => ⟨0, rfl, Nat.le_refl _⟩
  framed   := fun _ _ => sending_reads _
  packed   := fun _ _ _ => by decide

/-- For MicroProgramInvariantKept and MicroProgramNeverStuck. -/
theorem witness_MicroProgramInvariantKept :
    MicroProgramInv (moved [.sequencer] (waiting emitting7)) ∧ (moved [.sequencer] (waiting emitting7)).cfg.accepted ∧
    (moved [.sequencer] (waiting emitting7)).fault = 0 ∧ ∃ t, step (moved [.sequencer] (waiting emitting7)) = .next t :=
  ⟨{ fixedRom := waiting_inv.fixedRom, index := waiting_inv.index, code := waiting_inv.code, start := waiting_inv.start,
      owner := fun h h' => ⟨(waiting_inv.owner h h').held, (waiting_inv.owner h h').inFlight⟩,
      stamped := waiting_inv.stamped, framed := waiting_inv.framed, packed := waiting_inv.packed },
    by decide, rfl, _, rfl⟩
theorem witness_TransmittedFrameIsCurrentColour :
    MicroProgramInv (sending (.token 7)) ∧ (sending (.token 7)).upc = 6 ∧
    (nextOf (step (sending (.token 7)))).map (fun t => transmittedFrames t.history) =
      some [encodeFrame Config.thisHardware 0] := ⟨sending_inv, rfl, by decide⟩
theorem witness_AtMostOneTransmission :
    ∃ t, Host.Core.run core 1 (State.resetWith Config.thisHardware microProgram { Env.start with acquires := [.ok] } []) =
      .next t ∧ t.fault = 0 ∧ 1 ≤ t.upc.toNat ∧ t.upc.toNat ≤ 8 := ⟨_, rfl, by decide, by decide, by decide⟩

/-- The state after n steps, while every one answers a next state. -/
def ran (n : Nat) (s : State) : State :=
  match Host.Core.run core n s with
  | .next t    => t
  | .fault _   => s
  | .refused _ => s

theorem run_ran {n : Nat} {s : State} (h : (nextOf (Host.Core.run core n s)).isSome = true) :
    Host.Core.run core n s = .next (ran n s) := by
  unfold ran
  cases hr : Host.Core.run core n s with
  | next t    => rfl
  | fault r   => rw [hr] at h; cases h
  | refused r => rw [hr] at h; cases h

theorem step_ran {s : State} (h : (nextOf (Host.Core.run core 1 s)).isSome = true) : step s = .next (ran 1 s) := by
  obtain ⟨t, ht, h0⟩ := run_succ_next (run_ran h)
  rw [ht]; exact h0

/-- At TIMECHK, two iterations over the threshold scripted (as in 95 P3), the transmitter completing between them. -/
def looping : State :=
  { at_ 1 with
      lastTs := some 0, handleOwned := true,
      env := { Env.start with
        instants := [20000, 20010, 40010], words := [0, 0, 0], transmits := [.token 7],
        turns := List.replicate 6 .sequencer ++ .transmitter .done :: List.replicate 3 .sequencer } }

theorem looping_inv : MicroProgramInv looping where
  fixedRom := rfl
  index    := by decide
  code     := .inl rfl
  start    := fun _ h => absurd h (by decide)
  owner    := fun _ _ => ⟨fun _ => ⟨rfl, rfl, rfl⟩, fun h => absurd h (by decide)⟩
  stamped  := fun _ _ => ⟨0, rfl, Nat.le_refl _⟩
  framed   := fun _ h => absurd h (by decide)
  packed   := fun _ _ _ => by decide

theorem witness_FadesAtLeastTwentyMillisecondsApart :
    ∃ (n : Nat) (s t s' t' : State),
      MicroProgramInv s ∧ s.cfg.timerTicksPerMs = 1000 ∧
      s.upc = 1 ∧ nextTurn s = .sequencer ∧ step s = .next t ∧ t.thr = true ∧
      Host.Core.run core n t = .next s' ∧ resetCount s'.history = resetCount t.history ∧
      s'.upc = 1 ∧ nextTurn s' = .sequencer ∧ step s' = .next t' ∧ t'.thr = true :=
  ⟨8, looping, ran 1 looping, ran 8 (ran 1 looping), ran 1 (ran 8 (ran 1 looping)), looping_inv, rfl, rfl, by decide,
    step_ran (by decide), by decide, run_ran (by decide), by decide, by decide, by decide, step_ran (by decide), by decide⟩

/-- For AtMostOneTransmission at WAIT: four steps after reset (95 P1). -/
theorem witness_AtMostOneTransmission_at_wait :
    (nextOf (Host.Core.run core 4 (State.resetWith Config.thisHardware microProgram
      { Env.start with acquires := [.ok], instants := [1000, 5000], transmits := [.token 7] } []))).map
      (fun t => (t.upc, t.fault, t.token)) = some (7, 0, some 7) := by decide

end Sys2Proof.Tests
end

/-! ### What a fade step, a timestamp and a history hold -/

namespace Sys2Proof.Machine

open Sys2Proof.Safety

/-! `stampTime` writes `LAST_TS`, `UPC`, the agents and the history. -/

@[simp] theorem stampTime_cur (s : State) : (stampTime s).cur = s.cur := by simp [stampTime]
@[simp] theorem stampTime_tgt (s : State) : (stampTime s).tgt = s.tgt := by simp [stampTime]
@[simp] theorem stampTime_packed (s : State) : (stampTime s).packed = s.packed := by simp [stampTime]
@[simp] theorem stampTime_lastTs (s : State) : (stampTime s).lastTs = some (timerAnswer s) := by simp [stampTime]
@[simp] theorem stampTime_thr (s : State) : (stampTime s).thr = s.thr := by simp [stampTime]
@[simp] theorem stampTime_frame (s : State) : (stampTime s).frame = s.frame := by simp [stampTime]
@[simp] theorem stampTime_txBusy (s : State) : (stampTime s).txBusy = s.txBusy := by simp [stampTime]
@[simp] theorem stampTime_handleOwned (s : State) : (stampTime s).handleOwned = s.handleOwned := by simp [stampTime]
@[simp] theorem stampTime_token (s : State) : (stampTime s).token = s.token := by simp [stampTime]
@[simp] theorem stampTime_fault (s : State) : (stampTime s).fault = s.fault := by simp [stampTime]
@[simp] theorem stampTime_faultUpc (s : State) : (stampTime s).faultUpc = s.faultUpc := by simp [stampTime]
@[simp] theorem stampTime_cfg (s : State) : (stampTime s).cfg = s.cfg := by simp [stampTime]
@[simp] theorem stampTime_rom (s : State) : (stampTime s).rom = s.rom := by simp [stampTime]
@[simp] theorem stampTime_timerFloor (s : State) : (stampTime s).env.timerFloor = timerAnswer s := by simp [stampTime]
@[simp] theorem stampTime_history (s : State) : (stampTime s).history = s.history ++ [.time (timerAnswer s)] := by
  simp [stampTime]

/-- The advance from the index of the state before (spec/10_state.md R28). -/
theorem advance_upc_of {s s' : State} (h : s'.upc = s.upc) (hu : s.upc ≠ 15) : (advance s').upc = s.upc + 1 := by
  rw [advance_upc (h ▸ hu), h]

/-- The retarget phase of equal colours draws three words, red first (spec/41_fade_controller.md R143). -/
theorem retarget_of_eq {s : State} (h : s.cur = s.tgt) :
    retarget s = { afterEntropy (afterEntropy (afterEntropy s)) with
      tgt := drawnTarget (entropyAnswer s) (entropyAnswer (afterEntropy s))
        (entropyAnswer (afterEntropy (afterEntropy s))) } := by
  unfold retarget; rw [if_pos (colorEq_iff.2 h)]

/-- From unequal colours it does nothing (spec/41_fade_controller.md R148). -/
theorem retarget_of_ne {s : State} (h : s.cur ≠ s.tgt) : retarget s = s := by
  unfold retarget; rw [if_neg (mt colorEq_iff.1 h)]

/-- The target the retarget phase leaves is the old one or one of three reduced words. -/
theorem retarget_tgt_cases (s : State) :
    (retarget s).tgt = s.tgt ∨ ∃ wR wG wB, (retarget s).tgt = drawnTarget wR wG wB := by
  by_cases h : s.cur = s.tgt
  · exact .inr ⟨_, _, _, by rw [retarget_of_eq h]⟩
  · exact .inl (by rw [retarget_of_ne h])

/-- The retarget phase records nothing or its three draws. -/
theorem retarget_history_cases (s : State) :
    (retarget s).history = s.history ∨
      ∃ wR wG wB, (retarget s).history = s.history ++ [.draw wR, .draw wG, .draw wB] := by
  by_cases h : s.cur = s.tgt
  · exact .inr ⟨entropyAnswer s, entropyAnswer (afterEntropy s), entropyAnswer (afterEntropy (afterEntropy s)), by
      simp [retarget_of_eq h]⟩
  · exact .inl (by rw [retarget_of_ne h])

/-- A reduced word is never 255 (spec/41_fade_controller.md R144). -/
theorem reduceWord_le (w : Nat) : reduceWord w ≤ 254 := by
  have h := reduceWord_toNat w
  have : w % 255 < 255 := Nat.mod_lt _ (by decide)
  rw [BitVec.le_def, h]
  exact Nat.le_of_lt_succ this

/-- A nudged channel stays within any bounds of the channel and its target (spec/10_state.md R24). -/
theorem nudgeChannel_bounds {c t lo hi : Channel} (hcl : lo ≤ c) (hch : c ≤ hi) (htl : lo ≤ t) (hth : t ≤ hi) :
    lo ≤ nudgeChannel c t ∧ nudgeChannel c t ≤ hi := by
  unfold nudgeChannel
  split
  · bv_omega
  · split
    · bv_omega
    · exact ⟨hcl, hch⟩

/-- A nudge moves a channel by at most one unit (spec/41_fade_controller.md R145). -/
theorem nudgeChannel_distance (c t : Channel) : channelDistance (nudgeChannel c t) c ≤ 1 := by
  unfold nudgeChannel channelDistance
  split
  · have : (c + 1).toNat = c.toNat + 1 := by bv_omega
    omega
  · split
    · have : (c - 1).toNat = c.toNat - 1 := by bv_omega
      omega
    · omega

/-- A channel of a nudged colour is the nudged channel: the lanes are independent (spec/41_fade_controller.md R146). -/
theorem nudge_channel {x : Color → Channel} (hx : x ∈ [Color.r, Color.g, Color.b]) (c t : Color) :
    x (nudge c t) = nudgeChannel (x c) (x t) := by
  simp only [List.mem_cons, List.not_mem_nil, or_false] at hx
  obtain rfl | rfl | rfl := hx <;> rfl

/-- A channel of a drawn target is a reduced word. -/
theorem drawnTarget_channel_le {x : Color → Channel} (hx : x ∈ [Color.r, Color.g, Color.b]) (wR wG wB : Nat) :
    x (drawnTarget wR wG wB) ≤ 254 := by
  simp only [List.mem_cons, List.not_mem_nil, or_false] at hx
  obtain rfl | rfl | rfl := hx <;> exact reduceWord_le _

end Sys2Proof.Machine

namespace Sys2Proof.Safety

open Sys2Proof.Machine

theorem transmittedFrames_append (h k : List Event) :
    transmittedFrames (h ++ k) = transmittedFrames h ++ transmittedFrames k := List.filterMap_append

/-- Drawn targets are in range (spec/10_state.md R24). -/
theorem channelsAtMost254_drawnTarget (wR wG wB : Nat) : channelsAtMost254 (drawnTarget wR wG wB) :=
  ⟨reduceWord_le wR, reduceWord_le wG, reduceWord_le wB⟩

/-- A nudge keeps two colours in range in range. -/
theorem channelsAtMost254_nudge {c t : Color} (hc : channelsAtMost254 c) (ht : channelsAtMost254 t) :
    channelsAtMost254 (nudge c t) := by
  obtain ⟨hr, hg, hb⟩ := hc
  obtain ⟨kr, kg, kb⟩ := ht
  have bound {a b : Channel} (ha : a ≤ 254) (hb : b ≤ 254) : nudgeChannel a b ≤ 254 :=
    (nudgeChannel_bounds (lo := 0) (Nat.zero_le a.toNat) ha (Nat.zero_le b.toNat) hb).2
  exact ⟨bound hr kr, bound hg kg, bound hb kb⟩

/-- A raised fault holds one of the four codes (spec/60_exceptions.md R221). -/
theorem RaisedFrom.faultCodeLegal {s t : State} (h : RaisedFrom s t) : FaultCodeLegal t := by
  obtain ⟨-, -, -, c, -, hc⟩ := h
  rw [FaultCodeLegal, hc]
  exact faultNumber_le_four c

end Sys2Proof.Safety

/-! ### What a micro-op changes and keeps, path by path -/

namespace Sys2Proof.Machine

open Sys2Proof.Safety

section

variable {i : Instr} {s t : State}

theorem Ends.parameters_kept (h : Ends i s t) : t.cfg = s.cfg ∧ t.rom = s.rom := by
  cases h <;> simp

theorem Ends.colours_kept (h : Ends i s t) (hi : i ≠ .fade) : t.cur = s.cur ∧ t.tgt = s.tgt := by
  cases h with
  | fade => exact absurd rfl hi
  | _ => simp

theorem Ends.packed_kept (h : Ends i s t) (hi : i ≠ .pack) : t.packed = s.packed := by
  cases h with
  | pack => exact absurd rfl hi
  | _ => simp

theorem Ends.lastTs_kept (h : Ends i s t) (hi : i ≠ .init) (hs : i ≠ .stamp) : t.lastTs = s.lastTs := by
  cases h with
  | initOk => exact absurd rfl hi
  | stamp => exact absurd rfl hs
  | _ => simp

theorem Ends.thr_kept (h : Ends i s t) (hi : ∀ tgt, i ≠ .timechk tgt) : t.thr = s.thr := by
  cases h with
  | timechkReached | timechkNotReached => exact absurd rfl (hi _)
  | _ => simp

theorem Ends.frame_kept (h : Ends i s t) (hi : i ≠ .encode) : t.frame = s.frame := by
  cases h with
  | encode => exact absurd rfl hi
  | _ => simp

theorem Ends.transmission_kept (h : Ends i s t) (hx : i ≠ .tx) (hw : i ≠ .wait) :
    t.txBusy = s.txBusy ∧ t.token = s.token := by
  cases h with
  | txToken | txErr | txForbidden => exact absurd rfl hx
  | waitHolds | waitDone | waitErr | waitIdle => exact absurd rfl hw
  | _ => simp

theorem Ends.handle_kept (h : Ends i s t) (hi : i ≠ .init) (hx : i ≠ .tx) (hw : i ≠ .wait) :
    t.handleOwned = s.handleOwned := by
  cases h with
  | initOk | initErr => exact absurd rfl hi
  | txToken | txErr | txForbidden => exact absurd rfl hx
  | waitHolds | waitDone | waitErr | waitIdle => exact absurd rfl hw
  | _ => simp

/-- `FAULT` and `FAULT_UPC` change only by a fault the micro-op raises, which leaves `UPC` (spec/60_exceptions.md R222). -/
theorem Ends.fault_kept_or_raised (h : Ends i s t) :
    (t.fault = s.fault ∧ t.faultUpc = s.faultUpc) ∨ RaisedFrom s t := by
  cases h with
  | initErr => exact .inr (raise_raisedFrom _ [.acquire (acquireAnswer s)] rfl rfl)
  | encodeBusy | txForbidden | waitIdle => exact .inr (raise_raisedFrom _ [] rfl (by simp))
  | txErr _ f => exact .inr (raise_raisedFrom _ [.transmit f, .txError] rfl (by simp))
  | waitErr => exact .inr (raise_raisedFrom _ [.txError] rfl (by simp))
  | _ => exact .inl (by simp)

/-- The new events of a micro-op: at most three, no reset, and a frame only from TX, as read from `FRAME`
(spec/10_state.md R46). -/
theorem Ends.history_extended (h : Ends i s t) :
    ∃ new, t.history = s.history ++ new ∧ new.length ≤ 3 ∧ .reset ∉ new ∧
      (transmittedFrames new = [] ∨ i = .tx ∧ ∃ f, readFrame s = some f ∧ transmittedFrames new = [f]) := by
  cases h with
  | initOk =>
    exact ⟨[.acquire (acquireAnswer s), .time (timerAnswer { afterAcquire s with handleOwned := true })], by simp, by simp,
      by simp, .inl rfl⟩
  | initErr =>
    exact ⟨[.acquire (acquireAnswer s), .fault .fatalInit s.upc], by simp, by simp, by simp, .inl rfl⟩
  | timechkReached | timechkNotReached | stamp =>
    exact ⟨[.time (timerAnswer s)], by simp, by simp, by simp, .inl rfl⟩
  | fade =>
    obtain h | ⟨wR, wG, wB, h⟩ := retarget_history_cases s
    · exact ⟨[], by simp [h], by simp, by simp, .inl rfl⟩
    · exact ⟨[.draw wR, .draw wG, .draw wB], by simp [h], by simp, by simp, .inl rfl⟩
  | pack | encode | waitHolds => exact ⟨[], by simp, by simp, by simp, .inl rfl⟩
  | encodeBusy | txForbidden | waitIdle =>
    exact ⟨[.fault .ownership s.upc], by simp, by simp, by simp, .inl rfl⟩
  | txToken _ f k ho hb hf ha => exact ⟨[.transmit f], by simp, by simp, by simp, .inr ⟨rfl, f, hf, rfl⟩⟩
  | txErr _ f ho hb hf ha =>
    exact ⟨[.transmit f, .txError, .fault .fatalTx s.upc], by simp, by simp, by simp, .inr ⟨rfl, f, hf, rfl⟩⟩
  | waitDone => exact ⟨[.done], by simp, by simp, by simp, .inl rfl⟩
  | waitErr => exact ⟨[.txError, .fault .fatalTx s.upc], by simp, by simp, by simp, .inl rfl⟩
  | delay => exact ⟨[.delay], by simp, by simp, by simp, .inl rfl⟩

end

/-! ### One rule for what every step keeps -/

/-- A predicate that the choice of a turn, a reset, the transmitter's own step, a reserved word and every micro-op keep is kept
by every step (spec/00_scope.md R4, spec/42_sequencer.md R170). -/
theorem step_keeps {P : State → Prop} (choice : ∀ {s}, P s → P (afterChoice s)) (reset : ∀ {s}, P s → P (takeReset s))
    (transmitter : ∀ {a s}, P s → P (transmitterTurn a s))
    (illegal : ∀ {op s}, P s → s.fault = 0 → decode (fetch s) = .illegal op → P (raise .illegalOp s))
    (microOp : ∀ {i s t}, P s → s.fault = 0 → decode (fetch s) = .instr i → Ends i s t → P t)
    {s t : State} (hs : P s) (h : step s = .next t) : P t := by
  obtain ⟨-, ⟨-, rfl⟩ | ⟨a, -, rfl⟩ | ⟨-, hf, ⟨op, hd, rfl⟩ | ⟨i, hd, he⟩⟩⟩ := step_next_cases h
  · exact reset (choice hs)
  · exact transmitter (choice hs)
  · exact illegal (choice hs) (by simpa using hf) (by simpa using hd)
  · exact microOp (choice hs) (by simpa using hf) (by simpa using hd) (exec_next_ends he)

/-- What every step keeps holds along every run. -/
theorem run_keeps {P : State → Prop} (hstep : ∀ {s t}, P s → step s = .next t → P t) {n : Nat} {s u : State} (hs : P s)
    (h : Host.Core.run core n s = .next u) : P u := by
  induction n generalizing s with
  | zero => rw [run_zero] at h; cases h; exact hs
  | succ n ih =>
    obtain ⟨t, ht, hr⟩ := run_succ_next h
    exact ih (hstep hs ht) hr

/-- Only a scripted turn is a reset (spec/00_scope.md R4; log entry 14). -/
theorem turns_of_nextTurn_reset {s : State} (h : nextTurn s = .reset) : ∃ rest, s.env.turns = .reset :: rest := by
  unfold nextTurn at h
  split at h
  · next turn rest ht => exact ⟨rest, by rw [ht, h]⟩
  · split at h
    · split at h <;> cases h
    · cases h

/-- A micro-op stops only where it reads an element without a value (spec/10_state.md R45). -/
theorem exec_answers {i : Instr} {s : State} (hc : (∃ tgt, i = .timechk tgt) → s.lastTs ≠ none)
    (hx : i = .tx → readFrame s ≠ none) : ∃ t, exec i s = .next t := by
  cases i with
  | timechk tgt =>
    obtain ⟨last, hl⟩ := Option.ne_none_iff_exists'.1 (hc ⟨tgt, rfl⟩)
    exact ⟨checkThreshold tgt last s, by simp [exec, execTimechk, hl]⟩
  | tx =>
    obtain ⟨f, hf⟩ := Option.ne_none_iff_exists'.1 (hx rfl)
    by_cases h : txForbidden s
    · exact ⟨raise .ownership s, by simp [exec, execTx, h]⟩
    · exact ⟨issueFrame f s, by simp [exec, execTx, h, hf]⟩
  | _ => exact ⟨_, rfl⟩

end Sys2Proof.Machine

/-! ### The colour range -/

namespace Sys2Proof.Safety

open Sys2Proof.Machine

/-- The range reads the record and the two colours only. -/
theorem ColorRange.of_kept {s t : State} (h : ColorRange s) (hc : t.cfg = s.cfg) (hcur : t.cur = s.cur)
    (htgt : t.tgt = s.tgt) : ColorRange t :=
  ⟨hc ▸ h.initCurrent, hc ▸ h.initTarget, hcur ▸ h.current, htgt ▸ h.target⟩

/-- A fade step keeps the range: a drawn target is in it, and a nudge stays between two colours that are. -/
theorem ColorRange.after_fade {s : State} (h : ColorRange s) : ColorRange (advance (nudgeState (retarget s))) := by
  have htgt : channelsAtMost254 (retarget s).tgt := by
    obtain e | ⟨wR, wG, wB, e⟩ := retarget_tgt_cases s <;> rw [e]
    · exact h.target
    · exact channelsAtMost254_drawnTarget wR wG wB
  refine ⟨by simpa using h.initCurrent, by simpa using h.initTarget, ?_, by simpa using htgt⟩
  simpa using channelsAtMost254_nudge h.current htgt

theorem ColorRange.after_microOp {i : Instr} {s t : State} (h : ColorRange s) (he : Ends i s t) : ColorRange t := by
  by_cases hi : i = .fade
  · subst hi
    cases he
    exact h.after_fade
  · obtain ⟨hcur, htgt⟩ := he.colours_kept hi
    exact h.of_kept he.parameters_kept.1 hcur htgt

end Sys2Proof.Safety

namespace Sys2Proof.Proofs

open Sys2Proof.Machine Sys2Proof.Safety

/-- Settles O53: only FADE and a reset write the colours, and both write colours in the range. -/
theorem colourRangeKept : Obligations.ColourRangeKept := by
  intro s t hs h
  exact step_keeps (P := ColorRange)
    (choice := fun hr => hr.of_kept (by simp) (by simp) (by simp))
    (reset := fun hr => ⟨hr.initCurrent, hr.initTarget, hr.initCurrent, hr.initTarget⟩)
    (transmitter := fun hr => hr.of_kept (by simp) (by simp) (by simp))
    (illegal := fun hr _ _ => hr.of_kept (by simp) (by simp) (by simp))
    (microOp := fun hr _ _ he => hr.after_microOp he) hs h

end Sys2Proof.Proofs

/-! ### The invariant of the fixed micro-program -/

namespace Sys2Proof.Machine

/-- Only INIT has `OP` 0 and only WAIT has `OP` 7 (spec/30_encoding.md R89). -/
theorem opcodeOf_eq_zero {i : Instr} : opcodeOf i = 0 ↔ i = .init := by cases i <;> simp [opcodeOf]
theorem opcodeOf_eq_seven {i : Instr} : opcodeOf i = 7 ↔ i = .wait := by cases i <;> simp [opcodeOf]

/-- `LAST_TS` with an earlier answer of the timer keeps one through every micro-op (spec/42_sequencer.md R172). -/
theorem Ends.stamped_kept {i : Instr} {s t : State} (h : Ends i s t)
    (hs : ∃ x, s.lastTs = some x ∧ x ≤ s.env.timerFloor) : ∃ x, t.lastTs = some x ∧ x ≤ t.env.timerFloor := by
  obtain ⟨x, hx, hle⟩ := hs
  have hnow := Nat.le_trans hle (timerFloor_le_answer s)
  cases h with
  | initOk | stamp => exact ⟨_, stampTime_lastTs _, by simp⟩
  | timechkReached | timechkNotReached => exact ⟨x, by simpa using hx, by simpa using hnow⟩
  | _ => exact ⟨x, by simpa using hx, by simpa using hle⟩

end Sys2Proof.Machine

namespace Sys2Proof.Safety

open Sys2Proof.Machine

/-- The index of an instruction of the micro-program is its `OP`, and its two targets are 5 and 1 (spec/30_encoding.md R90). -/
theorem MicroProgramInv.fetched {s : State} {i : Instr} (inv : MicroProgramInv s) (hd : decode (fetch s) = .instr i) :
    s.upc = opcodeOf i ∧ (∀ tgt, i = .timechk tgt → tgt = 5) ∧ ∀ tgt, i = .delay tgt → tgt = 1 := by
  rw [fetch_microProgram inv.fixedRom] at hd
  obtain ⟨hu, h⟩ | ⟨hu, h⟩ | ⟨hu, h⟩ | ⟨hu, h⟩ | ⟨hu, h⟩ | ⟨hu, h⟩ | ⟨hu, h⟩ | ⟨hu, h⟩ | ⟨hu, h⟩ :=
    microProgram_decodes s.upc inv.index
  all_goals
    cases Decoded.instr.inj (hd.symm.trans h)
    exact ⟨hu, by simp, by simp⟩

/-- No word the micro-program reaches is reserved (spec/30_encoding.md R90). -/
theorem MicroProgramInv.fetches_instr {s : State} (inv : MicroProgramInv s) : ∃ i, decode (fetch s) = .instr i := by
  rw [fetch_microProgram inv.fixedRom]
  obtain ⟨-, h⟩ | ⟨-, h⟩ | ⟨-, h⟩ | ⟨-, h⟩ | ⟨-, h⟩ | ⟨-, h⟩ | ⟨-, h⟩ | ⟨-, h⟩ | ⟨-, h⟩ :=
    microProgram_decodes s.upc inv.index
  all_goals exact ⟨_, h⟩

/-- A halted state keeps only the ROM, the index and the code. -/
theorem MicroProgramInv.of_halted {s : State} (hrom : s.rom = microProgram) (hu : s.upc.toNat ≤ 8)
    (hf : s.fault = 1 ∨ s.fault = 2) : MicroProgramInv s := by
  have hne : s.fault ≠ 0 := by obtain h | h := hf <;> rw [h] <;> decide
  exact ⟨hrom, hu, .inr hf, fun h => absurd h hne, fun h => absurd h hne, fun h => absurd h hne, fun h => absurd h hne,
    fun h => absurd h hne⟩

/-- The faults the micro-program can raise keep the invariant (spec/60_exceptions.md R221). -/
theorem MicroProgramInv.after_raise {s s' : State} (inv : MicroProgramInv s) (hrom : s'.rom = s.rom) (hu : s'.upc = s.upc)
    {c : FaultCode} (hc : c = .fatalInit ∨ c = .fatalTx) : MicroProgramInv (raise c s') := by
  refine .of_halted (by simpa [hrom] using inv.fixedRom) (by simpa [hu] using inv.index) ?_
  obtain rfl | rfl := hc
  · exact .inl rfl
  · exact .inr rfl

/-- What a running core at an index u other than 0 must meet. -/
theorem MicroProgramInv.of_running {s : State} {u : MicroIndex} (hu : s.upc = u) (hrange : 1 ≤ u.toNat ∧ u.toNat ≤ 8)
    (hrom : s.rom = microProgram) (hf : s.fault = 0) (howner : Ownership s)
    (hstamped : ∃ x, s.lastTs = some x ∧ x ≤ s.env.timerFloor)
    (hframed : 6 ≤ u.toNat → readFrame s = some (encodeFrame s.cfg s.packed))
    (hpacked : u ≠ 3 → u ≠ 4 → s.packed = pack s.cur) : MicroProgramInv s := by
  subst hu
  refine ⟨hrom, hrange.2, .inl hf, fun _ h0 => ?_, fun _ _ => howner, fun _ _ => hstamped, fun _ => hframed,
    fun _ => hpacked⟩
  rw [h0] at hrange
  exact absurd hrange.1 (by decide)

/-- Away from WAIT ownership says that the handle is held and nothing is in flight (spec/10_state.md R40). -/
theorem Ownership.of_held {s : State} {u : MicroIndex} (hu : s.upc = u) (h7 : u ≠ 7)
    (h : s.handleOwned = true ∧ s.txBusy = false ∧ s.token = none) : Ownership s :=
  ⟨fun _ => h, fun hu7 => absurd (hu.symm.trans hu7) h7⟩

/-- At index 1 to 6 or 8 of a running core the link is free. -/
theorem MicroProgramInv.link_free {s : State} (inv : MicroProgramInv s) (hf : s.fault = 0) (h0 : s.upc ≠ 0)
    (h7 : s.upc ≠ 7) : s.handleOwned = true ∧ s.txBusy = false ∧ s.token = none := (inv.owner hf h0).held h7

/-- A micro-op from TIMECHK to ENCODE, or DELAY, keeps the link and the timestamp; left to show is what it makes of the frame and
the packed colour. -/
theorem MicroProgramInv.of_link_kept {i : Instr} {s t : State} (inv : MicroProgramInv s) (hf : s.fault = 0)
    (hs : s.upc = opcodeOf i) (he : Ends i s t) (hi : i ≠ .init ∧ i ≠ .tx ∧ i ≠ .wait) (u : MicroIndex) (hu : t.upc = u)
    (hrange : 1 ≤ u.toNat ∧ u.toNat ≤ 6) (hft : t.fault = s.fault)
    (hframed : u = 6 → readFrame t = some (encodeFrame t.cfg t.packed))
    (hpacked : u ≠ 3 → u ≠ 4 → t.packed = pack t.cur) : MicroProgramInv t := by
  obtain ⟨hinit, htx, hwait⟩ := hi
  have h0 : s.upc ≠ 0 := by rw [hs]; exact mt opcodeOf_eq_zero.1 hinit
  have h7 : s.upc ≠ 7 := by rw [hs]; exact mt opcodeOf_eq_seven.1 hwait
  obtain ⟨hbusy, htoken⟩ := he.transmission_kept htx hwait
  have hlink : t.handleOwned = true ∧ t.txBusy = false ∧ t.token = none := by
    rw [he.handle_kept hinit htx hwait, hbusy, htoken]
    exact inv.link_free hf h0 h7
  refine .of_running hu (by omega) (he.parameters_kept.2.trans inv.fixedRom) (hft.trans hf)
    (.of_held hu (by rintro rfl; exact absurd hrange.2 (by decide)) hlink) (he.stamped_kept (inv.stamped hf h0))
    (fun h6 => hframed ?_) hpacked
  bv_omega

section

variable {s : State}

/-- A reset starts the invariant, from any state with the fixed ROM. -/
theorem MicroProgramInv.resetWith (c : Config) (e : Env) (h : List Event) :
    MicroProgramInv (State.resetWith c microProgram e h) :=
  ⟨rfl, Nat.zero_le 8, .inl rfl, fun _ _ => ⟨rfl, rfl, rfl⟩, fun _ h => absurd rfl h, fun _ h => absurd rfl h,
    fun _ h => absurd h (show ¬ 6 ≤ (0 : MicroIndex).toNat by decide), fun _ _ _ => rfl⟩

theorem MicroProgramInv.after_reset (inv : MicroProgramInv s) : MicroProgramInv (takeReset s) := by
  unfold takeReset
  rw [inv.fixedRom]
  exact .resetWith _ _ _

/-- The transmitter keeps the token it has when it answers it, and touches no other element (spec/42_sequencer.md R174). -/
theorem tokenWithTransmitter.after_transmitterTurn {k : Token} (a : WaitAnswer) (h : tokenWithTransmitter s k) :
    tokenWithTransmitter (transmitterTurn a s) k := by
  unfold transmitterTurn
  obtain ⟨f, hx, -⟩ | ⟨b, hx⟩ := h <;> rw [hx]
  · exact .inr ⟨a, rfl⟩
  · exact .inr ⟨b, hx⟩

theorem MicroProgramInv.after_transmitterTurn (inv : MicroProgramInv s) (a : WaitAnswer) :
    MicroProgramInv (transmitterTurn a s) where
  fixedRom := by simpa using inv.fixedRom
  index := by simpa using inv.index
  code := by simpa using inv.code
  start := by simpa using inv.start
  owner hf h0 := by
    obtain ⟨held, inFlight⟩ := inv.owner (by simpa using hf) (by simpa using h0)
    refine ⟨by simpa using held, fun h7 => ?_⟩
    obtain ⟨hown, hbusy, k, hk, hx⟩ := inFlight (by simpa using h7)
    exact ⟨by simpa using hown, by simpa using hbusy, k, by simpa using hk, hx.after_transmitterTurn a⟩
  stamped := by simpa using inv.stamped
  framed := by simpa [readFrame_eq] using inv.framed
  packed := by simpa using inv.packed

theorem MicroProgramInv.after_choice (inv : MicroProgramInv s) : MicroProgramInv (afterChoice s) where
  fixedRom := by simpa using inv.fixedRom
  index := by simpa using inv.index
  code := by simpa using inv.code
  start := by simpa using inv.start
  owner hf h0 := by
    obtain ⟨held, inFlight⟩ := inv.owner (by simpa using hf) (by simpa using h0)
    exact ⟨by simpa using held, by simpa [tokenWithTransmitter] using inFlight⟩
  stamped := by simpa using inv.stamped
  framed := by simpa using inv.framed
  packed := by simpa using inv.packed

/-- INIT makes the handle held and the timestamp an answer: the invariant at index 1 (spec/42_sequencer.md R176). -/
theorem MicroProgramInv.after_initOk (inv : MicroProgramInv s) (hf : s.fault = 0) (hu : s.upc = 0) :
    MicroProgramInv (stampTime { afterAcquire s with handleOwned := true }) := by
  obtain ⟨-, hbusy, htoken⟩ := inv.start hf hu
  have hp := inv.packed hf (by simp [hu]) (by simp [hu])
  have hu' : (stampTime { afterAcquire s with handleOwned := true }).upc = 1 :=
    (advance_upc_of (s := s) (by simp) (by rw [hu]; decide)).trans (by rw [hu]; decide)
  exact .of_running hu' (by decide) (by simpa using inv.fixedRom) (by simpa using hf)
    (.of_held hu' (by decide) (by simpa using ⟨hbusy, htoken⟩)) ⟨_, stampTime_lastTs _, by simp⟩
    (fun h => absurd h (by decide)) (fun _ _ => by simpa using hp)

/-- TX gives the handle away for a token of the transmitter: ownership at WAIT (spec/42_sequencer.md R190). -/
theorem MicroProgramInv.after_txToken (inv : MicroProgramInv s) (hf : s.fault = 0) (hu : s.upc = 6) {f : Frame} {k : Token}
    (hr : readFrame s = some f) (ha : transmitAnswer f s = .token k) :
    MicroProgramInv (advance { afterTransmit f s with token := some k, txBusy := true, handleOwned := false }) := by
  have hframed := inv.framed hf (by simp [hu])
  have hp := inv.packed hf (by simp [hu]) (by simp [hu])
  have hu' : (advance { afterTransmit f s with token := some k, txBusy := true, handleOwned := false }).upc = 7 :=
    (advance_upc_of (s := s) (by simp) (by rw [hu]; decide)).trans (by rw [hu]; decide)
  refine .of_running hu' (by decide) (by simpa using inv.fixedRom) (by simpa using hf) ⟨fun h => absurd hu' h, fun _ => ?_⟩
    (by simpa using inv.stamped hf (by simp [hu])) (fun _ => by simpa [readFrame_eq] using hframed)
    (fun _ _ => by simpa using hp)
  exact ⟨by simp, by simp, k, by simp, .inl ⟨f, by simp [ha, transmitterAfter], by simpa [readFrame_eq] using hr⟩⟩

/-- WAIT takes the handle back (spec/42_sequencer.md R195). -/
theorem MicroProgramInv.after_waitDone (inv : MicroProgramInv s) (hf : s.fault = 0) (hu : s.upc = 7) :
    MicroProgramInv (advance { emit .done (afterWait s) with txBusy := false, handleOwned := true, token := none }) := by
  have hframed := inv.framed hf (by simp [hu])
  have hp := inv.packed hf (by simp [hu]) (by simp [hu])
  have hu' : (advance { emit .done (afterWait s) with txBusy := false, handleOwned := true, token := none }).upc = 8 :=
    (advance_upc_of (s := s) (by simp) (by rw [hu]; decide)).trans (by rw [hu]; decide)
  exact .of_running hu' (by decide) (by simpa using inv.fixedRom) (by simpa using hf) (.of_held hu' (by decide) (by simp))
    (by simpa using inv.stamped hf (by simp [hu])) (fun _ => by simpa [readFrame_eq] using hframed)
    (fun _ _ => by simpa using hp)

/-- Every micro-op of the fixed micro-program keeps its invariant, on each path it can take. The ownership violations do not
occur: at TX and ENCODE the link is free, at WAIT a transmission is in flight. -/
theorem MicroProgramInv.after_microOp {i : Instr} {t : State} (inv : MicroProgramInv s) (hf : s.fault = 0)
    (hd : decode (fetch s) = .instr i) (he : Ends i s t) : MicroProgramInv t := by
  obtain ⟨hu, htimechk, hdelay⟩ := inv.fetched hd
  have hp := inv.packed hf
  rw [hu] at hp
  have hnext {s' : State} (h : s'.upc = s.upc) : (advance s').upc = opcodeOf i + 1 := by
    rw [advance_upc_of h fun h15 => absurd inv.index (by rw [h15]; decide), hu]
  cases he with
  | initOk => exact inv.after_initOk hf hu
  | initErr => exact inv.after_raise (by simp) (by simp) (.inl rfl)
  | timechkReached _ tgt last hl hr =>
    exact inv.of_link_kept hf hu (.timechkReached s tgt last hl hr) (by simp) 2 (hnext (by simp))
      (by decide) (by simp) (by simp) (fun _ _ => by simpa using hp (by simp [opcodeOf]) (by simp [opcodeOf]))
  | timechkNotReached _ tgt last hl hr =>
    exact inv.of_link_kept hf hu (.timechkNotReached s tgt last hl hr) (by simp) 5 (htimechk tgt rfl)
      (by decide) (by simp) (by simp) (fun _ _ => by simpa using hp (by simp [opcodeOf]) (by simp [opcodeOf]))
  | fade =>
    exact inv.of_link_kept hf hu (.fade s) (by simp) 3 (hnext (by simp)) (by decide) (by simp) (by simp) (by simp)
  | stamp =>
    exact inv.of_link_kept hf hu (.stamp s) (by simp) 4 (hnext (by simp)) (by decide) (by simp) (by simp) (by simp)
  | pack =>
    exact inv.of_link_kept hf hu (.pack s) (by simp) 5 (hnext (by simp))
      (by decide) (by simp) (by simp) (fun _ _ => by simp)
  | encode _ hb =>
    exact inv.of_link_kept hf hu (.encode s hb) (by simp) 6 (hnext (by simp))
      (by decide) (by simp) (fun _ => by simp) (fun _ _ => by simpa using hp (by decide) (by decide))
  | txToken _ f k ho hb hr ha => exact inv.after_txToken hf hu hr ha
  | txErr => exact inv.after_raise (by simp) (by simp) (.inr rfl)
  | waitHolds => exact inv
  | waitDone => exact inv.after_waitDone hf hu
  | waitErr => exact inv.after_raise (by simp) (by simp) (.inr rfl)
  | delay _ tgt =>
    exact inv.of_link_kept hf hu (.delay s tgt) (by simp) 1 (hdelay tgt rfl)
      (by decide) (by simp) (by simp) (fun _ _ => by simpa using hp (by simp [opcodeOf]) (by simp [opcodeOf]))
  | encodeBusy _ hb =>
    obtain ⟨-, hfree, -⟩ := inv.link_free hf (by simp [hu, opcodeOf]) (by simp [hu, opcodeOf])
    simp [hfree] at hb
  | txForbidden _ h =>
    obtain ⟨hown, hfree, -⟩ := inv.link_free hf (by simp [hu, opcodeOf]) (by simp [hu, opcodeOf])
    simp [hown, hfree] at h
  | waitIdle _ hb =>
    obtain ⟨-, hbusy, -⟩ := (inv.owner hf (by simp [hu, opcodeOf])).inFlight hu
    simp [hbusy] at hb

/-- A running core's Sequencer is never stuck: TIMECHK finds a timestamp and TX a whole frame (spec/10_state.md R45). -/
theorem MicroProgramInv.sequencerTurn_answers (inv : MicroProgramInv s) (hf : s.fault = 0) :
    ∃ t, sequencerTurn s = .next t := by
  obtain ⟨i, hi⟩ := inv.fetches_instr
  obtain ⟨hu, -, -⟩ := inv.fetched hi
  rw [sequencerTurn_instr hf hi]
  refine exec_answers ?_ ?_
  · rintro ⟨tgt, rfl⟩
    obtain ⟨x, hx, -⟩ := inv.stamped hf (by simp [hu, opcodeOf])
    simp [hx]
  · rintro rfl
    simp [inv.framed hf (by simp [hu, opcodeOf])]

end

end Sys2Proof.Safety

namespace Sys2Proof.Proofs

open Sys2Proof.Machine Sys2Proof.Safety

/-- Settles O56: a reset starts the invariant, the transmitter's own step keeps its token, no word it fetches is reserved, and
each micro-op hands it on to the next index. -/
theorem microProgramInvariantKept : Obligations.MicroProgramInvariantKept := by
  intro s t hs h
  refine step_keeps (P := MicroProgramInv) (choice := (·.after_choice)) (reset := (·.after_reset))
    (transmitter := (·.after_transmitterTurn _)) (illegal := fun inv _ hd => ?_) (microOp := (·.after_microOp)) hs h
  obtain ⟨i, hi⟩ := inv.fetches_instr
  rw [hi] at hd
  cases hd

/-- Settles O57: every agent's turn answers, the Sequencer's by the invariant, which also bounds the code. -/
theorem microProgramNeverStuck : Obligations.MicroProgramNeverStuck := by
  intro s inv hc hf
  have hanswers : ∃ t, step s = .next t := by
    rw [step_eq, if_pos hc]
    cases nextTurn s with
    | transmitter a => exact ⟨_, rfl⟩
    | reset => exact ⟨_, rfl⟩
    | sequencer => exact inv.after_choice.sequencerTurn_answers (by simpa using hf)
  obtain ⟨t, ht⟩ := hanswers
  have hcode := (microProgramInvariantKept s t inv ht).code
  refine ⟨t, ht, ?_, ?_⟩ <;> obtain h | h | h := hcode <;> rw [h] <;> decide

/-- Settles O58: every state of a run from reset keeps the invariant, whose ownership part is R40. -/
theorem atMostOneTransmission : Obligations.AtMostOneTransmission := by
  intro c e n s hrun hf h1 _
  have inv : MicroProgramInv s := run_keeps (microProgramInvariantKept _ _) (.resetWith c e []) hrun
  obtain ⟨held, inFlight⟩ := inv.owner hf (by rintro h0; rw [h0] at h1; exact absurd h1 (by decide))
  by_cases hu : s.upc = 7
  · obtain ⟨hown, hbusy, k, hk, -⟩ := inFlight hu
    exact ⟨.inr ⟨hown, hbusy, by simp [hk]⟩, fun _ => hu, fun _ => ⟨hown, hbusy, by simp [hk]⟩⟩
  · obtain ⟨hown, hbusy, htoken⟩ := held hu
    exact ⟨.inl ⟨hown, hbusy, htoken⟩, fun h => absurd htoken h.2.2, fun h => absurd h hu⟩

/-- Settles O59: only TX hands a frame over, the one it reads from `FRAME`, and at TX that is the frame of `PACKED`, which is
`pack(CUR)`. -/
theorem transmittedFrameIsCurrentColour : Obligations.TransmittedFrameIsCurrentColour := by
  intro s t inv h
  obtain ⟨-, ⟨-, rfl⟩ | ⟨a, -, rfl⟩ | ⟨-, hf, ⟨op, -, rfl⟩ | ⟨i, hd, he⟩⟩⟩ := step_next_cases h
  · exact .inl (by simp [transmittedFrames])
  · exact .inl (by simp)
  · exact .inl (by simp [transmittedFrames])
  · obtain ⟨new, hnew, -, -, hframes⟩ := (exec_next_ends he).history_extended
    rw [hnew, transmittedFrames_append, afterChoice_history]
    obtain hnone | ⟨rfl, f, hread, hone⟩ := hframes
    · exact .inl (by rw [hnone, List.append_nil])
    · obtain ⟨hu, -, -⟩ := inv.fetched hd
      have hp := inv.packed hf (by simp [hu, opcodeOf]) (by simp [hu, opcodeOf])
      have hframed := inv.framed hf (by simp [hu, opcodeOf])
      rw [readFrame_afterChoice, hframed, Option.some.injEq] at hread
      exact .inr ⟨hu, by rw [hone, ← hread, hp]⟩

/-! ### What a micro-op writes, the history and the code -/

/-- Settles O24: FADE nudges each channel toward the target it leaves; every other micro-op keeps both colours. -/
theorem currentChannelStaysWithinTargets : Obligations.CurrentChannelStaysWithinTargets := by
  intro i s t h x hx
  have he := exec_next_ends h
  by_cases hi : i = .fade
  · subst hi
    cases he
    simp only [advance_cur, nudgeState_cur, advance_tgt, nudgeState_tgt, retarget_cur, nudge_channel hx]
    refine ⟨fun lo hi hcl hch htl hth => nudgeChannel_bounds hcl hch htl hth, fun hne => ?_, nudgeChannel_distance _ _⟩
    obtain e | ⟨wR, wG, wB, e⟩ := retarget_tgt_cases s
    · exact absurd (congrArg x e) hne
    · rw [e]
      exact drawnTarget_channel_le hx wR wG wB
  · obtain ⟨hcur, htgt⟩ := he.colours_kept hi
    rw [hcur, htgt]
    exact ⟨fun lo hi hcl hch _ _ => ⟨hcl, hch⟩, fun hne => absurd rfl hne, by simp [channelDistance]⟩

/-- Settles O29: each of the two reads is the micro-op's first act, and an entry without a value leaves no frame to read. -/
theorem readWithoutValueStops : Obligations.ReadWithoutValueStops := by
  refine ⟨fun s tgt h => ?_, fun s i hown hbusy h => ?_⟩
  · simp [exec, execTimechk, h]
  · simp [exec, execTx, txForbidden, hown, hbusy, readFrame_eq, frameValues_none i h]

/-- Settles O47: one frame lemma for each row of the state table. -/
theorem onlyNamedMicroOpsWrite : Obligations.OnlyNamedMicroOpsWrite := by
  intro i s t h
  have he := exec_next_ends h
  exact ⟨he.colours_kept, he.packed_kept, he.lastTs_kept, he.thr_kept, he.frame_kept, he.transmission_kept, he.handle_kept,
    he.fault_kept_or_raised, he.parameters_kept⟩

/-- Settles O48: each path of a micro-op advances, jumps, raises a fault or holds. -/
theorem upcSetInThreeWays : Obligations.UpcSetInThreeWays := by
  intro i s t h hu
  cases exec_next_ends h with
  | initOk | timechkReached | fade | stamp | pack | encode | txToken | waitDone =>
    exact .inl ⟨advance_upc_of (by simp) hu, by simp, by simp⟩
  | timechkNotReached _ tgt => exact .inr (.inl ⟨tgt, rfl, .inl ⟨rfl, rfl⟩⟩)
  | delay _ tgt => exact .inr (.inl ⟨tgt, rfl, .inr rfl⟩)
  | initErr => exact .inr (.inr ⟨by simp, .inl (raise_raisedFrom _ [.acquire (acquireAnswer s)] rfl rfl)⟩)
  | encodeBusy | txForbidden | waitIdle => exact .inr (.inr ⟨by simp, .inl (raise_raisedFrom _ [] rfl (by simp))⟩)
  | txErr _ f => exact .inr (.inr ⟨by simp, .inl (raise_raisedFrom _ [.transmit f, .txError] rfl (by simp))⟩)
  | waitErr => exact .inr (.inr ⟨by simp, .inl (raise_raisedFrom _ [.txError] rfl (by simp))⟩)
  | waitHolds _ hb hw =>
    refine .inr (.inr ⟨rfl, .inr ⟨rfl, rfl, hb, fun k a hk hx => ?_⟩⟩)
    rw [waitAnswer_eq_some.2 ⟨k, hx, hk⟩] at hw
    cases hw

/-- Settles O50: a micro-op's new events hold no reset, and a reset comes from a scripted turn only. -/
theorem historyOnlyGrows : Obligations.HistoryOnlyGrows := by
  intro s t h
  obtain ⟨-, ⟨hr, rfl⟩ | ⟨a, -, rfl⟩ | ⟨-, -, ⟨op, -, rfl⟩ | ⟨i, -, he⟩⟩⟩ := step_next_cases h
  · exact ⟨[.reset], by simp, by simp, fun _ => (turns_of_nextTurn_reset hr).imp fun _ h => ⟨h, rfl⟩⟩
  · exact ⟨[], by simp, by simp, by simp⟩
  · exact ⟨[.fault .illegalOp s.upc], by simp, by simp, by simp⟩
  · obtain ⟨new, hnew, hlen, hreset, -⟩ := (exec_next_ends he).history_extended
    exact ⟨new, by simpa using hnew, hlen, fun h => absurd h hreset⟩

/-- Settles O51: a fault entry writes one of the four codes, a reset writes 0, and nothing else writes `FAULT`. -/
theorem faultCodeStaysLegal : Obligations.FaultCodeStaysLegal := by
  intro s t hs h
  refine step_keeps (P := FaultCodeLegal)
    (choice := fun hl => by simpa [FaultCodeLegal] using hl)
    (reset := fun _ => by simp [FaultCodeLegal])
    (transmitter := fun hl => by simpa [FaultCodeLegal] using hl)
    (illegal := fun _ _ _ => by simpa [FaultCodeLegal] using faultNumber_le_four _)
    (microOp := fun hl _ _ he => ?_) hs h
  obtain ⟨hkept, -⟩ | hraised := he.fault_kept_or_raised
  · rwa [FaultCodeLegal, hkept]
  · exact hraised.faultCodeLegal

end Sys2Proof.Proofs

/-! ### The record, the placed word and the state after reset -/

namespace Sys2Proof.Machine

theorem ofNat_mod_word (w : Nat) : BitVec.ofNat 8 (w % 2 ^ 8) = BitVec.ofNat 8 w := BitVec.eq_of_toNat_eq (by simp)

/-- What a table row's word of eight bits decodes to. -/
theorem decode_of_decodeTableWord {w : Nat} {i : Instr} (h : decodeTableWord 8 w = some i) :
    decode (BitVec.ofNat 8 w) = .instr i := by
  unfold decodeTableWord at h
  rw [ofNat_mod_word] at h
  split at h
  · next j hd => rw [hd, Option.some.inj h]
  · cases h

/-- Once the turn placed with a word is chosen, the state is the one before with that word in its ROM (log entry 24). -/
theorem afterChoice_withFetchWord (s : State) (w : Nat) :
    afterChoice (s.withFetchWord 8 w) = { s with rom := s.rom.set s.upc.toNat (BitVec.ofNat 8 w) s.upc.isLt } := by
  unfold State.withFetchWord placeWord
  rw [ofNat_mod_word]
  rfl

end Sys2Proof.Machine

namespace Sys2Proof.Proofs

open Sys2Proof.Machine Sys2Proof.Safety

/-- Settles O14: the six conditions are the model's own, and `build` tests them with the timer unit. -/
theorem illFormedRecordRefused : Obligations.IllFormedRecordRefused := by
  refine ⟨fun c => ?_, fun c rom e h => ?_, fun c rom e h ht => ?_, by decide, by decide⟩
  · have hticks : c.ticksFit ↔
        ∀ n ∈ [(ticks c).t1h, (ticks c).t1l, (ticks c).t0h, (ticks c).t0l], 1 ≤ n ∧ n ≤ 32767 := by
      simp [Config.ticksFit, tickFits]
    rw [← hticks]
  · exact if_neg fun hc => h hc.1
  · exact if_pos ⟨h, by simp [Config.timerUnitPositive, ht]⟩

/-- Settles O15: the test of the record comes before any agent's turn. -/
theorem noStepWithIllFormedRecord : Obligations.NoStepWithIllFormedRecord := by
  refine fun s => ⟨fun h => if_neg fun hc => ?_, fun t h => (step_next_cases h).1⟩
  obtain ⟨hwf, htimer⟩ := hc
  obtain h | h := h
  · exact h hwf
  · simp [Config.timerUnitPositive, h] at htimer

/-- Settles O39: the placed word stands at `UPC`, and the turn placed with it is used up by the step. -/
theorem placedWordRunsNext : Obligations.PlacedWordRunsNext := by
  intro s w i hc hf hw
  have hfetch : fetch { s with rom := s.rom.set s.upc.toNat (BitVec.ofNat 8 w) s.upc.isLt } = BitVec.ofNat 8 w := by
    simp [fetch]
  rw [step_eq, if_pos (show (s.withFetchWord 8 w).cfg.accepted from hc), nextTurn_scripted (show _ = .sequencer :: _ from rfl),
    afterChoice_withFetchWord]
  exact sequencerTurn_instr hf (hfetch.symm ▸ decode_of_decodeTableWord hw)

/-- Settles O43: each element of the state and the record by its definition, the colours and `FRAME` by computing them. -/
theorem resetStateValues : Obligations.ResetStateValues :=
  ⟨by decide, by decide, by decide, rfl, rfl, rfl, by decide, rfl, rfl, rfl, rfl, rfl, rfl, rfl, rfl, rfl, rfl, rfl, rfl,
    rfl, rfl, rfl, rfl, rfl⟩

/-- Settles O55: `LAST_TS` and `FRAME` hold no value, the transmitter is idle and every colour is black. -/
theorem invariantsHoldAtReset : Obligations.InvariantsHoldAtReset := by
  have hblack : channelsAtMost254 (logicalColor 0) := by unfold channelsAtMost254; decide
  exact ⟨.resetWith _ _ _, ⟨hblack, hblack, hblack, hblack⟩, fun _ h => (by cases h), fun _ _ h => (by cases h), by decide⟩

end Sys2Proof.Proofs

/-! ### PACK, ENCODE and the frame in flight -/

namespace Sys2Proof.Machine

@[simp] theorem stampTime_transmitter (s : State) : (stampTime s).env.transmitter = s.env.transmitter := by
  simp [stampTime]

/-- Once the transmitter has had its turn it emits nothing (spec/42_sequencer.md R174). -/
theorem transmitterTurn_not_emitting (a : WaitAnswer) (s : State) (k : Token) (f : Frame) :
    (transmitterTurn a s).env.transmitter ≠ .emitting k f := by
  unfold transmitterTurn
  cases h : s.env.transmitter <;> simp [h]

section

variable {s t : State}

/-- PACK writes `pack(CUR)` (spec/40_pulse_encoder.md R119). -/
theorem Ends.packed_after_pack (h : Ends .pack s t) : t.packed = Machine.pack s.cur := by
  cases h
  simp

/-- With nothing in flight ENCODE writes the frame of `PACKED` and raises nothing (spec/40_pulse_encoder.md R120). -/
theorem Ends.frame_after_encode (h : Ends .encode s t) (hb : s.txBusy = false) :
    t.frame = storedFrame (encodeFrame s.cfg s.packed) ∧ t.fault = s.fault := by
  cases h with
  | encode => simp
  | encodeBusy _ hbusy => simp [hb] at hbusy

end

end Sys2Proof.Machine

namespace Sys2Proof.Safety

open Sys2Proof.Machine

section

variable {s t : State}

/-- With nothing in flight there is nothing to keep. -/
theorem FrameInFlightKept.of_not_busy (h : t.txBusy = false) : FrameInFlightKept t := by
  intro k f _ hb
  simp [h] at hb

/-- The invariant reads the transmitter, `TX_BUSY` and `FRAME` only. -/
theorem FrameInFlightKept.of_kept (h : FrameInFlightKept s) (hx : t.env.transmitter = s.env.transmitter)
    (hb : t.txBusy = s.txBusy) (hf : t.frame = s.frame) : FrameInFlightKept t := by
  intro k f hemit hbusy
  rw [readFrame_eq, hf]
  exact h k f (hx ▸ hemit) (hb ▸ hbusy)

/-- TX starts the transmission of the frame it read, and leaves it in `FRAME` (spec/42_sequencer.md R190). -/
theorem FrameInFlightKept.after_txToken {f : Frame} {k : Token} (hr : readFrame s = some f)
    (ha : transmitAnswer f s = .token k) :
    FrameInFlightKept (advance { afterTransmit f s with token := some k, txBusy := true, handleOwned := false }) := by
  intro k' f' hemit _
  obtain ⟨-, rfl⟩ : k = k' ∧ f = f' := by simpa [ha, transmitterAfter] using hemit
  simpa [readFrame_eq] using hr

/-- Of the micro-ops only ENCODE writes `FRAME`, and only with nothing in flight; only TX starts a transmission; a WAIT that ends
and a failed TX leave the core not busy (spec/20_memory.md R64). -/
theorem FrameInFlightKept.after_microOp {i : Instr} (h : FrameInFlightKept s) (he : Ends i s t) : FrameInFlightKept t := by
  cases he with
  | encode _ hb => exact .of_not_busy (by simpa using hb)
  | txToken _ f k ho hb hr ha => exact .after_txToken hr ha
  | txErr | waitDone | waitErr => exact .of_not_busy (by simp)
  | _ => exact h.of_kept (by simp) (by simp) (by simp)

end

end Sys2Proof.Safety

namespace Sys2Proof.Proofs

open Sys2Proof.Machine Sys2Proof.Safety

/-- Settles O18: each writes a function of elements it leaves unchanged, and ENCODE leaves the core not busy. -/
theorem packAndEncodeIdempotent : Obligations.PackAndEncodeIdempotent := by
  refine ⟨fun s t u ht hu => ?_, fun s t u hb ht hu => ?_⟩
  · have first := exec_next_ends ht
    rw [(exec_next_ends hu).packed_after_pack, first.packed_after_pack, (first.colours_kept (by simp)).1]
  · have first := exec_next_ends ht
    obtain ⟨hframe, hfault⟩ := first.frame_after_encode hb
    have hb' : t.txBusy = false := (first.transmission_kept (by simp) (by simp)).1.trans hb
    obtain ⟨hframe', hfault'⟩ := (exec_next_ends hu).frame_after_encode hb'
    rw [hframe', hframe, first.parameters_kept.1, first.packed_kept (by simp)]
    exact ⟨rfl, hfault'.trans hfault⟩

/-- Settles O49: no micro-op, fault entry, reset or turn of an agent writes the record or the ROM. -/
theorem parametersNeverWritten : Obligations.ParametersNeverWritten := by
  intro s t h
  exact step_keeps (P := fun x => x.cfg = s.cfg ∧ x.rom = s.rom)
    (choice := fun hp => by simpa using hp)
    (reset := fun hp => hp)
    (transmitter := fun hp => by simpa using hp)
    (illegal := fun hp _ _ => by simpa using hp)
    (microOp := fun ⟨hc, hr⟩ _ _ he => ⟨he.parameters_kept.1.trans hc, he.parameters_kept.2.trans hr⟩) ⟨rfl, rfl⟩ h

/-- Settles O54: a reset ends the transmission, the transmitter's own step ends the emission, and the micro-ops keep the rest. -/
theorem frameInFlightStaysKept : Obligations.FrameInFlightStaysKept := by
  intro s t hs h
  exact step_keeps (P := FrameInFlightKept)
    (choice := fun hk => hk.of_kept (by simp) (by simp) (by simp))
    (reset := fun _ => .of_not_busy (by simp))
    (transmitter := fun _ k f hemit => absurd hemit (transmitterTurn_not_emitting _ _ k f))
    (illegal := fun hk _ _ => hk.of_kept (by simp) (by simp) (by simp))
    (microOp := fun hk _ _ he => hk.after_microOp he) hs h

end Sys2Proof.Proofs

/-! ### Micro-words: fields, decoding and encoding -/

namespace Sys2Proof

/-- A word is its two fields put together (spec/30_encoding.md R88). -/
theorem tgtField_append_opField (w : MicroWord) : tgtField w ++ opField w = w :=
  (BitVec.extractLsb'_append_extractLsb'_eq_extractLsb' (by rfl)).trans BitVec.extractLsb'_eq_self

@[simp] theorem opField_encode (i : Instr) : opField (encode i) = opcodeOf i := (Laws.Encoding.fields_of_append _ _).1

@[simp] theorem tgtField_encode (i : Instr) : tgtField (encode i) = tgtOf i := (Laws.Encoding.fields_of_append _ _).2

/-- The decoder reads `OP`, and `TGT` for TIMECHK and DELAY only (spec/30_encoding.md R92 (b), R95). -/
theorem decode_of_fields {w : MicroWord} {i : Instr} (hop : opField w = opcodeOf i)
    (htgt : opcodeOf i = 1 ∨ opcodeOf i = 8 → tgtField w = tgtOf i) : decode w = .instr i := by
  unfold decode
  cases i with
  | timechk t => simp [hop, opcodeOf, htgt (.inl rfl), tgtOf]
  | delay t => simp [hop, opcodeOf, htgt (.inr rfl), tgtOf]
  | _ => simp [hop, opcodeOf]

/-- A micro-op without an operand is decoded from its `OP` alone (spec/30_encoding.md R92 (b)). -/
theorem decode_of_opField {w : MicroWord} (i : Instr) (hi : ¬ (opcodeOf i = 1 ∨ opcodeOf i = 8))
    (hop : opField w = opcodeOf i) : decode w = .instr i :=
  decode_of_fields hop fun h => absurd h hi

theorem decode_encode (i : Instr) : decode (encode i) = .instr i :=
  decode_of_fields (opField_encode i) fun _ => tgtField_encode i

/-- A reserved `OP` has no micro-op (spec/30_encoding.md R93, R95). -/
theorem decode_of_reserved {w : MicroWord} (h : 9 ≤ (opField w).toNat) : decode w = .illegal (opField w) := by
  unfold decode
  split
  case h_10 => rfl
  all_goals omega

/-- Every pair of fields that is not reserved belongs to a micro-op (spec/30_encoding.md R89, R92). -/
theorem exists_instr_of_fields {op t : BitVec 4} (hop : op.toNat ≤ 8) (ht : op ≠ 1 → op ≠ 8 → t = 0) :
    ∃ i, opcodeOf i = op ∧ tgtOf i = t := by
  have hcases : op = 0 ∨ op = 1 ∨ op = 2 ∨ op = 3 ∨ op = 4 ∨ op = 5 ∨ op = 6 ∨ op = 7 ∨ op = 8 := by bv_omega
  obtain rfl | rfl | rfl | rfl | rfl | rfl | rfl | rfl | rfl := hcases
  · exact ⟨.init, rfl, (ht (by decide) (by decide)).symm⟩
  · exact ⟨.timechk t, rfl, rfl⟩
  · exact ⟨.fade, rfl, (ht (by decide) (by decide)).symm⟩
  · exact ⟨.stamp, rfl, (ht (by decide) (by decide)).symm⟩
  · exact ⟨.pack, rfl, (ht (by decide) (by decide)).symm⟩
  · exact ⟨.encode, rfl, (ht (by decide) (by decide)).symm⟩
  · exact ⟨.tx, rfl, (ht (by decide) (by decide)).symm⟩
  · exact ⟨.wait, rfl, (ht (by decide) (by decide)).symm⟩
  · exact ⟨.delay t, rfl, rfl⟩

/-- Every word with no reserved field is the encoding of a micro-op. -/
theorem exists_encode_eq {w : MicroWord} (h : wordWellFormed w) : ∃ i, encode i = w := by
  obtain ⟨hop, htgt⟩ := h
  obtain ⟨i, hi, ht⟩ := exists_instr_of_fields hop htgt
  exact ⟨i, by rw [encode, hi, ht, tgtField_append_opField]⟩

end Sys2Proof

/-! ### Packed colours and entry words -/

namespace Sys2Proof.Machine

theorem unpack_pack (c : Color) : unpack (pack c) = c := by
  obtain ⟨hg, hr, hb⟩ := pack_bits c
  rw [unpack, hg, hr, hb]

theorem pack_unpack (v : Packed) : pack (unpack v) = v := by
  have hgr : v.extractLsb' 16 8 ++ v.extractLsb' 8 8 = v.extractLsb' 8 16 :=
    BitVec.extractLsb'_append_extractLsb'_eq_extractLsb' (by rfl)
  have hgrb : v.extractLsb' 8 16 ++ v.extractLsb' 0 8 = v.extractLsb' 0 24 :=
    BitVec.extractLsb'_append_extractLsb'_eq_extractLsb' (by rfl)
  calc pack (unpack v) = v.extractLsb' 16 8 ++ v.extractLsb' 8 8 ++ v.extractLsb' 0 8 := rfl
    _ = v.extractLsb' 8 16 ++ v.extractLsb' 0 8 := by rw [hgr]
    _ = v.extractLsb' 0 24 := hgrb
    _ = v := BitVec.extractLsb'_eq_self

/-- An entry word as a number: `DUR1` stands at bit 16, `LVL0` at bit 15 and `LVL1` at bit 31 (spec/30_encoding.md R84). -/
theorem entryWord_toNat (l0 l1 : Level) (d0 d1 : Duration) :
    (entryWord l0 d0 l1 d1).toNat =
      (levelBit l1).toNat * 2 ^ 31 + d1.toNat * 2 ^ 16 + (levelBit l0).toNat * 2 ^ 15 + d0.toNat := by
  simp only [entryWord, BitVec.toNat_append]
  rw [← Nat.shiftLeft_add_eq_or_of_lt d1.isLt, ← Nat.shiftLeft_add_eq_or_of_lt (levelBit l0).isLt,
    ← Nat.shiftLeft_add_eq_or_of_lt d0.isLt]
  simp only [Nat.shiftLeft_eq]
  omega

@[simp] theorem levelOfBit_levelBit (l : Level) : levelOfBit ((levelBit l).getLsbD 0) = l := by
  cases l <;> rfl

section

variable (l0 l1 : Level) (d0 d1 : Duration)

/-! Each field of an entry word reads back (spec/30_encoding.md R84). -/

@[simp] theorem dur0_entryWord : dur0 (entryWord l0 d0 l1 d1) = d0 := by
  rw [dur0, entryWord, BitVec.extractLsb'_append_eq_right]

@[simp] theorem lvl0_entryWord : lvl0 (entryWord l0 d0 l1 d1) = l0 := by
  rw [lvl0, entryWord, BitVec.getLsbD_append, if_neg (by decide), BitVec.getLsbD_append, if_pos (by decide),
    levelOfBit_levelBit]

@[simp] theorem dur1_entryWord : dur1 (entryWord l0 d0 l1 d1) = d1 := by
  refine BitVec.eq_of_toNat_eq ?_
  have h0 := d0.isLt
  have h1 := d1.isLt
  have hl := (levelBit l0).isLt
  rw [dur1, BitVec.extractLsb'_toNat, entryWord_toNat, Nat.shiftRight_eq_div_pow]
  omega

@[simp] theorem lvl1_entryWord : lvl1 (entryWord l0 d0 l1 d1) = l1 := by
  rw [lvl1, entryWord, BitVec.getLsbD_append, if_neg (by decide), BitVec.getLsbD_append, if_neg (by decide),
    BitVec.getLsbD_append, if_neg (by decide), levelOfBit_levelBit]

end

theorem ofNat_toNat_of_tickFits {n : Nat} (h : tickFits n) : (BitVec.ofNat 15 n).toNat = n := by
  obtain ⟨-, hmax⟩ := h
  rw [BitVec.toNat_ofNat, Nat.mod_eq_of_lt (by omega)]

section

variable {high low : Nat} (hh : tickFits high) (hl : tickFits low)

include hh hl in
/-- `low << 16 | 0x8000 | high` (spec/30_encoding.md R86). -/
theorem dataWord_toNat : (dataWord high low).toNat = low * 2 ^ 16 + 0x8000 + high := by
  rw [dataWord, entryWord_toNat, ofNat_toNat_of_tickFits hh, ofNat_toNat_of_tickFits hl]
  simp [levelBit]

include hh in
theorem dur0_dataWord_toNat : (dur0 (dataWord high low)).toNat = high := by
  rw [dataWord, dur0_entryWord, ofNat_toNat_of_tickFits hh]

include hl in
theorem dur1_dataWord_toNat : (dur1 (dataWord high low)).toNat = low := by
  rw [dataWord, dur1_entryWord, ofNat_toNat_of_tickFits hl]

end

@[simp] theorem lvl0_dataWord (high low : Nat) : lvl0 (dataWord high low) = .high := lvl0_entryWord ..

@[simp] theorem lvl1_dataWord (high low : Nat) : lvl1 (dataWord high low) = .low := lvl1_entryWord ..

/-- A well-formed record makes the word of either source bit a data word whose two counts fit their fields. -/
theorem profileWord_eq_dataWord {c : Config} (h : c.wellFormed) (b : Bool) :
    ∃ high low, tickFits high ∧ tickFits low ∧ profileWord c b = dataWord high low := by
  obtain ⟨-, -, -, ⟨h1, l1, h0, l0⟩, -⟩ := h
  cases b with
  | true => exact ⟨_, _, h1, l1, rfl⟩
  | false => exact ⟨_, _, h0, l0, rfl⟩

end Sys2Proof.Machine

namespace Sys2Proof.Proofs

open Sys2Proof.Machine

/-- Settles O1: the decoder reads the fields the encoder writes, and a word with no reserved field is an encoding. -/
theorem decodeInvertsEncode : Obligations.DecodeInvertsEncode := by
  refine ⟨decode_encode, fun w hw => ?_⟩
  obtain ⟨i, rfl⟩ := exists_encode_eq hw
  exact ⟨i, decode_encode i, rfl⟩

/-- Settles O4: the packed colour is its three channels, in the order green, red, blue. -/
theorem packAndUnpackAreInverse : Obligations.PackAndUnpackAreInverse :=
  ⟨fun c => ⟨unpack_pack c, pack_bits c⟩, fun v => ⟨pack_unpack v, rfl⟩,
    fun _ _ h => Function.LeftInverse.injective unpack_pack h⟩

/-- Settles O8: the counts of a well-formed record fit, so each word is the sum of its fields; four are computed. -/
theorem constantWords : Obligations.ConstantWords := by
  refine ⟨fun c ⟨_, _, _, ⟨h1, l1, h0, l0⟩, _⟩ => ⟨dataWord_toNat h1 l1, dataWord_toNat h0 l0⟩, rfl, ?_⟩
  decide

/-- Settles O10: entries 0 to 23 are data words with counts of at least 1, and entry 24 is `WORD_TERM`. -/
theorem entryWordClasses : Obligations.EntryWordClasses := by
  refine fun c v hc => ⟨fun i hi => ?_, ?_⟩
  · obtain ⟨high, low, hh, hl, hw⟩ := profileWord_eq_dataWord hc (sourceBit v i)
    rw [encodeFrame_data c v i hi, hw]
    refine ⟨lvl0_dataWord .., lvl1_dataWord .., ?_, ?_⟩
    · rw [dur0_dataWord_toNat hh]
      exact hh.1
    · rw [dur1_dataWord_toNat hl]
      exact hl.1
  · rw [encodeFrame_term]
    decide

/-- Settles O2: each assigned `OP` is a micro-op's, each other one is reserved; the listing is computed. -/
theorem decoderFollowsOpcodeMap : Obligations.DecoderFollowsOpcodeMap := by
  refine ⟨fun w => ?_, by decide, by decide⟩
  exact ⟨decode_of_opField .init (by decide), fun h => decode_of_fields h fun _ => rfl,
    decode_of_opField .fade (by decide), decode_of_opField .stamp (by decide), decode_of_opField .pack (by decide),
    decode_of_opField .encode (by decide), decode_of_opField .tx (by decide), decode_of_opField .wait (by decide),
    fun h => decode_of_fields h fun _ => rfl, decode_of_reserved⟩

/-- Settles O3: twelve fixed words, each decoded by computing. -/
theorem sampleWordsDecode : Obligations.SampleWordsDecode := by
  unfold Obligations.SampleWordsDecode
  decide

end Sys2Proof.Proofs

/-! ### The frame of a packed colour: its bits, its entries and their decoding -/

namespace Sys2Proof.Machine

/-- The lowest bits of a word are the sum of their weights. -/
theorem toNat_mod_two_pow_eq_sum {w : Nat} (x : BitVec w) (n : Nat) :
    x.toNat % 2 ^ n = ∑ i ∈ Finset.range n, (x.getLsbD i).toNat * 2 ^ i := by
  induction n with
  | zero => simp [Nat.mod_one]
  | succ n ih =>
    rw [Finset.sum_range_succ, ← ih, Nat.mod_pow_succ, ← BitVec.testBit_toNat, Nat.toNat_testBit, Nat.mul_comm (2 ^ n)]

/-- A word is the sum of its bits, each times its weight, the most significant bit first (spec/40_pulse_encoder.md R122). -/
theorem toNat_eq_sum_bits {w : Nat} (x : BitVec w) :
    x.toNat = ∑ i : Fin w, (x.getLsbD (w - 1 - i)).toNat * 2 ^ (w - 1 - i.val) := by
  calc x.toNat = x.toNat % 2 ^ w := (Nat.mod_eq_of_lt x.isLt).symm
    _ = ∑ i ∈ Finset.range w, (x.getLsbD i).toNat * 2 ^ i := toNat_mod_two_pow_eq_sum x w
    _ = ∑ i ∈ Finset.range w, (x.getLsbD (w - 1 - i)).toNat * 2 ^ (w - 1 - i) :=
      (Finset.sum_range_reflect (fun i => (x.getLsbD i).toNat * 2 ^ i) w).symm
    _ = ∑ i : Fin w, (x.getLsbD (w - 1 - i)).toNat * 2 ^ (w - 1 - i.val) := Finset.sum_range _

/-- Entry 24 is the terminator and every other entry the profile of its source bit (spec/40_pulse_encoder.md R115, R116, R118). -/
theorem encodeFrame_getElem (c : Config) (v : Packed) (i : Fin 25) :
    (encodeFrame c v)[i] = if i = 24 then wordTerm else profileWord c (sourceBit v i) := by
  split
  next h => exact h ▸ encodeFrame_term c v
  next h => exact encodeFrame_data c v i (by omega)

section

variable {c : Config} (h : c.wellFormed)

include h

/-! The fields of the words of a well-formed record hold the whole tick counts (spec/10_state.md R33 (4)). -/

theorem dur0_wordBit1_toNat : (dur0 (wordBit1 c)).toNat = (ticks c).t1h := by
  obtain ⟨-, -, -, ⟨h1, -⟩, -⟩ := h
  exact dur0_dataWord_toNat h1

theorem dur1_wordBit1_toNat : (dur1 (wordBit1 c)).toNat = (ticks c).t1l := by
  obtain ⟨-, -, -, ⟨-, l1, -⟩, -⟩ := h
  exact dur1_dataWord_toNat l1

theorem dur0_wordBit0_toNat : (dur0 (wordBit0 c)).toNat = (ticks c).t0h := by
  obtain ⟨-, -, -, ⟨-, -, h0, -⟩, -⟩ := h
  exact dur0_dataWord_toNat h0

theorem dur1_wordBit0_toNat : (dur1 (wordBit0 c)).toNat = (ticks c).t0l := by
  obtain ⟨-, -, -, ⟨-, -, -, l0⟩, -⟩ := h
  exact dur1_dataWord_toNat l0

/-- The word of a source bit has `DUR0` of at least 1, so it is no terminator (spec/40_pulse_encoder.md R118). -/
theorem dur0_profileWord_ne_zero (b : Bool) : dur0 (profileWord c b) ≠ 0 := by
  obtain ⟨high, low, hh, -, hw⟩ := profileWord_eq_dataWord h b
  intro h0
  have hzero : high = 0 := by rw [← dur0_dataWord_toNat hh (low := low), ← hw, h0]; rfl
  exact absurd hh.1 (by omega)

theorem profileWord_ne_wordTerm (b : Bool) : profileWord c b ≠ wordTerm :=
  fun hw => dur0_profileWord_ne_zero h b (hw ▸ by decide)

/-- The two profiles have different high times (spec/10_state.md R33 (5)). -/
theorem wordBit0_ne_wordBit1 : wordBit0 c ≠ wordBit1 c := by
  intro hw
  have hticks : (ticks c).t0h = (ticks c).t1h := by rw [← dur0_wordBit0_toNat h, hw, dur0_wordBit1_toNat h]
  obtain ⟨-, -, -, -, hdiffer, -⟩ := h
  exact absurd hticks (Nat.ne_of_lt hdiffer)

/-- The word of a source bit decodes to that bit (spec/30_encoding.md R87). -/
theorem decodeEntry_profileWord (b : Bool) : decodeEntry c (profileWord c b) = .bit b := by
  unfold decodeEntry
  cases b with
  | true => exact if_pos rfl
  | false => exact (if_neg (wordBit0_ne_wordBit1 h)).trans (if_pos rfl)

/-- The terminator is the word of no bit, so it decodes to TERM (spec/30_encoding.md R87). -/
theorem decodeEntry_wordTerm : decodeEntry c wordTerm = .term := by
  have h1 : wordTerm ≠ wordBit1 c := (profileWord_ne_wordTerm h true).symm
  have h0 : wordTerm ≠ wordBit0 c := (profileWord_ne_wordTerm h false).symm
  rw [decodeEntry, if_neg h1, if_neg h0, if_pos rfl]

/-- A data entry decodes to its source bit (spec/40_pulse_encoder.md R122). -/
theorem decodeEntry_encodeFrame_data (v : Packed) (i : Nat) (hi : i < 24) :
    decodeEntry c ((encodeFrame c v)[i]'(Nat.lt_succ_of_lt hi)) = .bit (sourceBit v i) := by
  rw [encodeFrame_data c v i hi, decodeEntry_profileWord h]

end

end Sys2Proof.Machine

namespace Sys2Proof.Safety

@[simp] theorem entryValue_bit (b : Bool) : entryValue (.bit b) = b.toNat := by cases b <;> rfl

end Sys2Proof.Safety

namespace Sys2Proof.Proofs

open Sys2Proof.Machine Sys2Proof.Safety

/-- Settles O12: each entry decodes to what it was made from, and a packed colour is the sum of its weighted bits. -/
theorem frameRoundTrip : Obligations.FrameRoundTrip := by
  refine fun c v hc => ⟨Vector.length_toList, ?_, fun i => ⟨_, decodeEntry_encodeFrame_data hc v i i.isLt⟩, ?_⟩
  · rw [encodeFrame_term, decodeEntry_wordTerm hc]
  · refine (toNat_eq_sum_bits v).trans (Finset.sum_congr rfl fun i _ => ?_)
    rw [decodeEntry_encodeFrame_data hc v i i.isLt, entryValue_bit, sourceBit]

/-- Settles O9: the counts fit their fields, and only the terminator has no high time. -/
theorem frameEntriesFollowSourceBits : Obligations.FrameEntriesFollowSourceBits := by
  refine fun c v hc => ⟨fun i hi => ?_, dur0_wordBit1_toNat hc, dur1_wordBit1_toNat hc, dur0_wordBit0_toNat hc,
    dur1_wordBit0_toNat hc, encodeFrame_term c v, fun i => ?_⟩
  · rw [encodeFrame_data c v i hi, profileWord, sourceBit]
    exact ⟨fun hb => if_pos hb, fun hb => if_neg (by simp [hb])⟩
  · rw [encodeFrame_getElem]
    split
    next h => exact iff_of_true (by decide) h
    next h => exact iff_of_false (dur0_profileWord_ne_zero hc _) h

end Sys2Proof.Proofs

/-! ### The source bits of a packed colour -/

namespace Sys2Proof.Machine

/-! Green fills the first eight source bits, red the next eight and blue the last (spec/40_pulse_encoder.md R117). -/

section

variable (k : Color) {j : Nat} (h : j < 8)

include h

theorem sourceBit_pack_green : sourceBit (pack k) j = k.g.getLsbD (7 - j) := by
  rw [sourceBit, pack, BitVec.getLsbD_append, if_neg (by omega), BitVec.getLsbD_append, if_neg (by omega)]
  congr 1
  omega

theorem sourceBit_pack_red : sourceBit (pack k) (8 + j) = k.r.getLsbD (7 - j) := by
  rw [sourceBit, pack, BitVec.getLsbD_append, if_neg (by omega), BitVec.getLsbD_append, if_pos (by omega)]
  congr 1
  omega

theorem sourceBit_pack_blue : sourceBit (pack k) (16 + j) = k.b.getLsbD (7 - j) := by
  rw [sourceBit, pack, BitVec.getLsbD_append, if_pos (by omega)]
  congr 1
  omega

end

end Sys2Proof.Machine

namespace Sys2Proof.Proofs

open Sys2Proof.Machine

/-- Settles O11: each entry is the profile of its source bit, and the source bits are the channels' bits. -/
theorem channelsInGreenRedBlueOrder : Obligations.ChannelsInGreenRedBlueOrder := by
  refine fun c k j h => ⟨?_, ?_, ?_, encodeFrame_term c _⟩
  · rw [encodeFrame_data c _ j (by omega), sourceBit_pack_green k h, profileWord]
  · rw [encodeFrame_data c _ (8 + j) (by omega), sourceBit_pack_red k h, profileWord]
  · rw [encodeFrame_data c _ (16 + j) (by omega), sourceBit_pack_blue k h, profileWord]

end Sys2Proof.Proofs

/-! ### Tick conversion -/

namespace Sys2Proof.Machine

theorem ticks_exact {c : Config} (h : c.tickMode = .exact) : ticks c = exactTicks c := by rw [ticks, h]

theorem ticks_legacy {c : Config} (h : c.tickMode = .legacy) : ticks c = legacyTicks c := by rw [ticks, h]

/-- `round_ticks(d)` is the nearest tick, halves up (spec/40_pulse_encoder.md R112). -/
theorem roundTicks_bounds (c : Config) (d : Nat) :
    1000 * roundTicks c d ≤ d * c.clkMhz.toNat + 500 ∧ d * c.clkMhz.toNat + 500 < 1000 * (roundTicks c d + 1) :=
  ⟨Nat.mul_div_le _ _, Nat.lt_mul_div_succ _ (by decide)⟩

theorem roundTicks_mono (c : Config) {d d' : Nat} (h : d ≤ d') : roundTicks c d ≤ roundTicks c d' :=
  Nat.div_le_div_right (Nat.add_le_add_right (Nat.mul_le_mul_right _ h) _)

end Sys2Proof.Machine

namespace Sys2Proof.Proofs

open Sys2Proof.Machine

/-- Settles O5: a high time is shorter than the period and rounding is monotone, so the low time is what completes the period. -/
theorem exactProfilesTakeOnePeriod : Obligations.ExactProfilesTakeOnePeriod := by
  refine ⟨roundTicks_bounds, fun c hmode ⟨_, h01, h1p⟩ => ?_, by decide⟩
  rw [ticks_exact hmode]
  exact ⟨rfl, rfl, Nat.add_sub_cancel' (roundTicks_mono c (by omega)), Nat.add_sub_cancel' (roundTicks_mono c (by omega))⟩

/-- Settles O6: the conversion is LEGACY's by definition, and the counts at 80 MHz are computed. -/
theorem legacyDividesByTruncatedTick : Obligations.LegacyDividesByTruncatedTick :=
  ⟨fun _ h => ticks_legacy h, by decide⟩

/-- Settles O7: the counts of this hardware's record in both modes, computed. -/
theorem periodHoldsInExactModeOnly : Obligations.PeriodHoldsInExactModeOnly := by
  unfold Obligations.PeriodHoldsInExactModeOnly
  decide

end Sys2Proof.Proofs

/-! ### What PACK and ENCODE leave -/

namespace Sys2Proof.Machine

/-- The advance writes `UPC`, and of the agents the counter of free values (spec/10_state.md R28). -/
theorem advance_eq_update (s : State) : advance s = { s with upc := (advance s).upc, env := (advance s).env } := by
  unfold advance
  split <;> rfl

end Sys2Proof.Machine

namespace Sys2Proof.Safety

open Sys2Proof.Machine

theorem advancedFrom_advance (s : State) : AdvancedFrom s.upc s.env (advance s) := by
  refine ⟨fun h => ?_, ?_⟩
  · rw [advance_eq h]
    exact ⟨rfl, rfl⟩
  · unfold advance
    split <;> rfl

theorem faultedFrom_raise {c : FaultCode} (h : c ≠ .fatalTx) (s : State) : FaultedFrom c s (raise c s) := by
  refine ⟨by rw [raise_other h], ?_, ?_, ?_, h⟩ <;> rintro rfl <;> rfl

end Sys2Proof.Safety

namespace Sys2Proof.Proofs

open Sys2Proof.Machine Sys2Proof.Safety

/-- Settles O16: PACK is one write and the advance. -/
theorem packRecomputesPackedColour : Obligations.PackRecomputesPackedColour := by
  refine ⟨by decide, by decide, fun s => ⟨_, rfl, ?_, advancedFrom_advance { s with packed := pack s.cur }, ?_⟩⟩
  · rw [advance_packed, pack]
  · rw [advance_packed]
    exact advance_eq_update { s with packed := pack s.cur }

/-- Settles O17: ENCODE is one write of the whole frame and the advance, or the fault entry of OWNERSHIP alone. -/
theorem encodeWritesWholeFrame : Obligations.EncodeWritesWholeFrame := by
  refine ⟨by decide, by decide, fun s hb => ?_, fun s hb => ?_⟩
  · have hexec : exec .encode s = .next (advance (writeFrame (encodeFrame s.cfg s.packed) s)) := by
      simp [exec, execEncode, hb]
    refine ⟨_, hexec, fun i => ?_, advancedFrom_advance (writeFrame _ s), ?_⟩
    · rw [advance_frame, writeFrame_frame]
      exact (storedFrame_getElem _ i i.isLt).trans (congrArg some (encodeFrame_getElem s.cfg s.packed i))
    · rw [advance_frame]
      exact advance_eq_update (writeFrame (encodeFrame s.cfg s.packed) s)
  · have hexec : exec .encode s = .next (raise .ownership s) := by simp [exec, execEncode, hb]
    exact ⟨_, hexec, faultedFrom_raise (by decide) s⟩

end Sys2Proof.Proofs

/-! ### The fade step: retarget, nudge, convergence -/

namespace Sys2Proof.Machine

open Sys2Proof.Safety

/-- FADE is the retarget phase, the nudge phase and the advance (spec/41_fade_controller.md R150). -/
theorem exec_fade (s : State) : exec .fade s = .next (advance (nudgeState (retarget s))) := rfl

/-! What a retarget phase of equal colours leaves: the reduced words as the target, and three draws taken and recorded in the
order red, green, blue (spec/41_fade_controller.md R143). -/

theorem retarget_tgt_of_eq {s : State} (h : s.cur = s.tgt) :
    (retarget s).tgt = drawnTarget (entropyAnswer s) (entropyAnswer (afterEntropy s))
      (entropyAnswer (afterEntropy (afterEntropy s))) := by
  rw [retarget_of_eq h]

theorem retarget_env_of_eq {s : State} (h : s.cur = s.tgt) :
    (retarget s).env = (afterEntropy (afterEntropy (afterEntropy s))).env := by
  rw [retarget_of_eq h]

theorem retarget_history_of_eq {s : State} (h : s.cur = s.tgt) :
    (retarget s).history = s.history ++ [.draw (entropyAnswer s), .draw (entropyAnswer (afterEntropy s)),
      .draw (entropyAnswer (afterEntropy (afterEntropy s)))] := by
  simp [retarget_of_eq h]

/-! One lane of the nudge, case by case (spec/41_fade_controller.md R145). -/

theorem nudgeChannel_toNat_of_lt {c t : Channel} (h : c < t) : (nudgeChannel c t).toNat = c.toNat + 1 := by
  rw [nudgeChannel, if_pos h]
  bv_omega

theorem nudgeChannel_toNat_of_gt {c t : Channel} (h : t < c) : (nudgeChannel c t).toNat + 1 = c.toNat := by
  rw [nudgeChannel, if_neg (BitVec.lt_asymm h), if_pos h]
  bv_omega

@[simp] theorem nudgeChannel_self (c : Channel) : nudgeChannel c c = c := by simp [nudgeChannel]

/-- A lane below its target rises by one, a lane above it falls by one, a lane at it stays. -/
theorem nudgeChannel_toNat_cases (c t : Channel) :
    (c.toNat < t.toNat ∧ (nudgeChannel c t).toNat = c.toNat + 1) ∨
    (c.toNat = t.toNat ∧ (nudgeChannel c t).toNat = c.toNat) ∨
    (t.toNat < c.toNat ∧ (nudgeChannel c t).toNat + 1 = c.toNat) := by
  obtain hlt | heq | hgt := Nat.lt_trichotomy c.toNat t.toNat
  · exact .inl ⟨hlt, nudgeChannel_toNat_of_lt hlt⟩
  · obtain rfl := BitVec.eq_of_toNat_eq heq
    exact .inr (.inl ⟨rfl, by rw [nudgeChannel_self]⟩)
  · exact .inr (.inr ⟨hgt, nudgeChannel_toNat_of_gt hgt⟩)

@[simp] theorem nudge_self (c : Color) : nudge c c = c := by simp [nudge]

theorem reduceWord_ne_255 (w : Nat) : reduceWord w ≠ 255 := fun h => absurd (h ▸ reduceWord_le w) (by decide)

/-- The reduction has period 255 (spec/41_fade_controller.md R144). -/
theorem reduceWord_add_255 (w : Nat) : reduceWord (w + 255) = reduceWord w := by
  simp [reduceWord, fadeModulus]

theorem color_eq_iff {c d : Color} : c = d ↔ c.r = d.r ∧ c.g = d.g ∧ c.b = d.b := by
  cases c; cases d
  simp

end Sys2Proof.Machine

namespace Sys2Proof.Safety

open Sys2Proof.Machine

theorem drawCount_append (h k : List Event) : drawCount (h ++ k) = drawCount h + drawCount k := List.countP_append

/-- A retarget phase of equal colours draws three times (spec/41_fade_controller.md R148). -/
theorem drawCount_retarget_of_eq {s : State} (h : s.cur = s.tgt) :
    drawCount (retarget s).history = drawCount s.history + 3 := by
  rw [retarget_history_of_eq h, drawCount_append]
  rfl

theorem channelDistance_eq_zero {a b : Channel} : channelDistance a b = 0 ↔ b = a := by
  rw [channelDistance, BitVec.toNat_eq]
  omega

theorem channelDistance_le_254 {a b : Channel} (ha : a ≤ 254) (hb : b ≤ 254) : channelDistance a b ≤ 254 := by
  have ha : a.toNat ≤ 254 := ha
  have hb : b.toNat ≤ 254 := hb
  rw [channelDistance]
  omega

/-- `c'` is where j nudges toward `T` have brought the channel `c`: j units nearer, on the way from `c` to `T`
(spec/41_fade_controller.md R147). -/
structure Approached (j : Nat) (T c c' : Channel) : Prop where
  distance : channelDistance T c' = channelDistance T c - j
  between  : (c ≤ c' ∧ c' ≤ T) ∨ (T ≤ c' ∧ c' ≤ c)

section

variable {j : Nat} {T c c' : Channel}

theorem Approached.start (T c : Channel) : Approached 0 T c c := by
  refine ⟨rfl, ?_⟩
  simp only [BitVec.le_def]
  omega

/-- One more nudge brings the channel one unit nearer, or leaves it at the target. -/
theorem Approached.nudge (h : Approached j T c c') : Approached (j + 1) T c (nudgeChannel c' T) := by
  obtain ⟨hdist, hbetween⟩ := h
  have hstep := nudgeChannel_toNat_cases c' T
  simp only [channelDistance, BitVec.le_def] at hdist hbetween
  constructor <;> simp only [channelDistance, BitVec.le_def] <;> omega

theorem Approached.reached_iff (h : Approached j T c c') : c' = T ↔ channelDistance T c ≤ j := by
  rw [← channelDistance_eq_zero, h.distance, Nat.sub_eq_zero_iff_le]

end

/-- While every later fade step finds the colours unequal, no step draws, so j steps are j nudges toward the target the first
one left. -/
theorem fadeSteps_approach {s : State} {j : Nat} (hj : 1 ≤ j)
    (hne : ∀ (i : Nat) (u : State), 1 ≤ i → i < j → fadeSteps i s = .next u → u.cur ≠ u.tgt) :
    ∃ t, fadeSteps j s = .next t ∧ t.tgt = (retarget s).tgt ∧
      ∀ x ∈ [Color.r, Color.g, Color.b], Approached j (x (retarget s).tgt) (x s.cur) (x t.cur) := by
  induction j, hj using Nat.le_induction with
  | base =>
    refine ⟨_, exec_fade s, by simp, fun x hx => ?_⟩
    simpa [nudge_channel hx] using (Approached.start _ _).nudge
  | succ j hj ih =>
    obtain ⟨t, hsteps, htgt, happroached⟩ := ih fun i u h1 hi => hne i u h1 (Nat.lt_succ_of_lt hi)
    have hkept : retarget t = t := retarget_of_ne (hne j t hj (Nat.lt_succ_self j) hsteps)
    refine ⟨advance (nudgeState t), ?_, by simpa using htgt, fun x hx => ?_⟩
    · rw [fadeSteps, hsteps]
      exact (exec_fade t).trans (by rw [hkept])
    · simpa [nudge_channel hx, htgt] using (happroached x hx).nudge

end Sys2Proof.Safety

namespace Sys2Proof.Proofs

open Sys2Proof.Machine Sys2Proof.Safety

/-- Settles O23: each lane approaches the target on its own, and the colours are equal once the farthest lane has arrived. -/
theorem fadeConvergesLinearly : Obligations.FadeConvergesLinearly := by
  intro s j hj hne
  obtain ⟨t, hsteps, htgt, happroached⟩ := fadeSteps_approach hj hne
  have hfirst : (advance (nudgeState (retarget s))).tgt = (retarget s).tgt := by simp
  refine ⟨_, t, exec_fade s, hsteps, htgt.trans hfirst.symm, ?_⟩
  rw [hfirst]
  refine ⟨fun x hx => ?_, ?_⟩
  · have h := happroached x hx
    exact ⟨h.reached_iff, h.distance, fun hc hT => channelDistance_le_254 hT hc, h.between⟩
  · rw [color_eq_iff, (happroached _ (by simp)).reached_iff, (happroached _ (by simp)).reached_iff,
      (happroached _ (by simp)).reached_iff, max_le_iff, max_le_iff]

/-- Settles O19: the retarget phase by the two cases of colour equality, the nudge lane by lane. -/
theorem fadeRetargetsThenNudges : Obligations.FadeRetargetsThenNudges := by
  refine ⟨by decide, by decide, fun s => ⟨_, exec_fade s, fun hne => ?_, fun heq => ?_, fun x hx => ?_, ?_⟩⟩
  · rw [retarget_of_ne hne]
    exact ⟨by simp, by simp, advancedFrom_advance (nudgeState s)⟩
  · rw [advance_tgt, nudgeState_tgt, advance_history, nudgeState_history, retarget_history_of_eq heq, retarget_tgt_of_eq heq]
    refine ⟨reduceWord_toNat _, reduceWord_toNat _, reduceWord_toNat _, rfl, ?_⟩
    simpa [retarget_env_of_eq heq] using advancedFrom_advance (nudgeState (retarget s))
  · simp only [advance_cur, advance_tgt, nudgeState_cur, nudgeState_tgt, retarget_cur, nudge_channel hx]
    exact ⟨nudgeChannel_toNat_of_lt, nudgeChannel_toNat_of_gt, fun h => by rw [← h, nudgeChannel_self]⟩
  · simpa using advance_eq_update (nudgeState (retarget s))

/-- Settles O20: the retarget phase alone draws. -/
theorem fadeDrawsNoneOrThree : Obligations.FadeDrawsNoneOrThree := by
  intro s t h
  cases h
  rw [advance_history, nudgeState_history]
  exact ⟨fun hne => by rw [retarget_of_ne hne], drawCount_retarget_of_eq⟩

/-- Settles O21: a drawn channel is a remainder modulo 255. -/
theorem drawnTargetNever255 : Obligations.DrawnTargetNever255 := by
  intro s t h heq
  cases h
  rw [advance_tgt, nudgeState_tgt, retarget_tgt_of_eq heq]
  exact ⟨reduceWord_ne_255 _, reduceWord_ne_255 _, reduceWord_ne_255 _, entropyAnswer_lt s, reduceWord_add_255, by decide⟩

/-- Settles O22: a nudge toward the colour itself changes no lane, so the colours are equal again. -/
theorem redrawOfCurrentColourHolds : Obligations.RedrawOfCurrentColourHolds := by
  intro s t h _ hredraw
  have hcur : t.cur = s.cur := by
    cases h
    rw [advance_tgt, nudgeState_tgt] at hredraw
    rw [advance_cur, nudgeState_cur, retarget_cur, hredraw, nudge_self]
  have heq : t.cur = t.tgt := hcur.trans hredraw.symm
  exact ⟨hcur, heq, _, exec_fade t, by simpa using drawCount_retarget_of_eq heq⟩

end Sys2Proof.Proofs

/-! ### Paths, the timer's bound, `LAST_TS` and the threshold -/

namespace Sys2Proof.Machine

open Sys2Proof.Safety

section

variable {i : Instr} {s t : State}

/-- Each path is what the micro-op does in a state that meets the path's conditions (spec/30_encoding.md R89). -/
theorem Ends.exec_eq (h : Ends i s t) : exec i s = .next t := by
  cases h with
  | initOk _ ha | initErr _ ha => simp [exec, execInit, ha]
  | timechkReached _ _ last hl hr | timechkNotReached _ _ last hl hr =>
    simp [exec, execTimechk, hl, checkThreshold, hr]
  | fade | stamp | pack | delay => rfl
  | encode _ hb | encodeBusy _ hb => simp [exec, execEncode, hb]
  | txToken _ f k ho hb hf ha | txErr _ f ho hb hf ha =>
    simp [exec, execTx, Machine.txForbidden, ho, hb, hf, issueFrame, ha]
  | txForbidden _ hx => exact if_pos (by simpa [Machine.txForbidden] using hx)
  | waitHolds _ hb ha | waitDone _ hb ha | waitErr _ hb ha => simp [exec, execWait, hb, ha, completeWait]
  | waitIdle _ hb => simp [exec, execWait, hb]

/-- The timer's bound never falls in a micro-op (spec/42_sequencer.md R171). -/
theorem Ends.timerFloor_le (h : Ends i s t) : s.env.timerFloor ≤ t.env.timerFloor := by
  cases h with
  | initOk => simpa using timerFloor_le_answer { afterAcquire s with handleOwned := true }
  | timechkReached | timechkNotReached | stamp => simpa using timerFloor_le_answer s
  | _ => simp

/-- A micro-op keeps `LAST_TS` or writes the timer's newest answer to it (spec/42_sequencer.md R176, R185). -/
theorem Ends.lastTs_kept_or_fresh (h : Ends i s t) : t.lastTs = s.lastTs ∨ t.lastTs = some t.env.timerFloor := by
  cases h with
  | initOk | stamp => exact .inr (by simp)
  | _ => exact .inl (by simp)

/-- A micro-op records no reset (spec/10_state.md R46). -/
theorem Ends.resetCount_kept (h : Ends i s t) : resetCount t.history = resetCount s.history := by
  obtain ⟨new, hnew, -, hreset, -⟩ := h.history_extended
  rw [hnew, resetCount, List.count_append, List.count_eq_zero.2 hreset]
  rfl

end

/-- The threshold in numbers (spec/42_sequencer.md R180). -/
theorem thresholdReached_iff (c : Config) (last t : Nat) :
    thresholdReached c last t = true ↔
      (t - last) / c.timerTicksPerMs + c.elapsedBiasMs.toNat > c.fadeThresholdMs.toNat := decide_eq_true_iff

/-- With instants in microseconds the threshold is reached from 20000 µs on (spec/42_sequencer.md R181). -/
theorem thresholdReached_iff_twentyMs {c : Config} (hc : c.wellFormed) (hunit : c.timerTicksPerMs = 1000) (last t : Nat) :
    thresholdReached c last t = true ↔ 20000 ≤ t - last := by
  obtain ⟨-, -, -, -, -, hthreshold, hbias, -, -⟩ := hc
  rw [thresholdReached_iff, hunit, hthreshold, hbias]
  change (t - last) / 1000 + 1 > 20 ↔ _
  omega

end Sys2Proof.Machine

/-! ### Runs without a reset -/

namespace Sys2Proof.Safety

open Sys2Proof.Machine

/-- `P` holds of `s`, unless a reset was taken since the history held `r` of them. -/
def HoldsUntilReset (P : State → Prop) (r : Nat) (s : State) : Prop :=
  r ≤ resetCount s.history ∧ (resetCount s.history = r → P s)

theorem HoldsUntilReset.of_kept {P : State → Prop} {r : Nat} {s t : State} (h : HoldsUntilReset P r s)
    (hcount : resetCount t.history = resetCount s.history) (hP : P s → P t) : HoldsUntilReset P r t := by
  obtain ⟨hle, hs⟩ := h
  rw [HoldsUntilReset, hcount]
  exact ⟨hle, fun hr => hP (hs hr)⟩

/-- A reset is one more, so nothing is claimed after it. -/
theorem HoldsUntilReset.after_reset {P : State → Prop} {r : Nat} {s : State} (h : HoldsUntilReset P r s) :
    HoldsUntilReset P r (takeReset s) := by
  have hcount : resetCount (takeReset s).history = resetCount s.history + 1 := by simp [resetCount]
  obtain ⟨hle, -⟩ := h
  rw [HoldsUntilReset, hcount]
  exact ⟨by omega, fun hr => by omega⟩

/-- What every step but a reset keeps holds at the end of a run that records no reset. -/
theorem run_keeps_without_reset {P : State → Prop} (choice : ∀ {s}, P s → P (afterChoice s))
    (transmitter : ∀ {a s}, P s → P (transmitterTurn a s))
    (illegal : ∀ {op s}, P s → s.fault = 0 → decode (fetch s) = .illegal op → P (raise .illegalOp s))
    (microOp : ∀ {i s t}, P s → s.fault = 0 → decode (fetch s) = .instr i → Ends i s t → P t)
    {n : Nat} {s u : State} (hs : P s) (h : Host.Core.run core n s = .next u)
    (hcount : resetCount u.history = resetCount s.history) : P u := by
  have hkept : HoldsUntilReset P (resetCount s.history) u := by
    refine run_keeps (fun hx hstep => ?_) ⟨Nat.le_refl _, fun _ => hs⟩ h
    exact step_keeps
      (choice := fun hx => hx.of_kept (by rw [afterChoice_history]) choice)
      (reset := fun hx => hx.after_reset)
      (transmitter := fun hx => hx.of_kept (by rw [transmitterTurn_history]) transmitter)
      (illegal := fun hx hf hd => hx.of_kept (by simp [resetCount]) fun hP => illegal hP hf hd)
      (microOp := fun hx hf hd he => hx.of_kept he.resetCount_kept fun hP => microOp hP hf hd he) hx hstep
  exact hkept.2 hcount

end Sys2Proof.Safety

/-! ### Two threshold crossings -/

namespace Sys2Proof.Safety

open Sys2Proof.Machine

/-- Only FADE has `OP` 2 and only STAMP has `OP` 3 (spec/30_encoding.md R89). -/
theorem opcodeOf_eq_two {i : Instr} : opcodeOf i = 2 ↔ i = .fade := by cases i <;> simp [opcodeOf]
theorem opcodeOf_eq_three {i : Instr} : opcodeOf i = 3 ↔ i = .stamp := by cases i <;> simp [opcodeOf]

/-- What holds from a threshold crossing whose timer answer was `T` until the next reset: the fade and its STAMP are still to come,
or `LAST_TS` is at least `T` (spec/42_sequencer.md R182). -/
structure PacedSince (T : Nat) (s : State) : Prop where
  inv     : MicroProgramInv s
  bound   : T ≤ s.env.timerFloor
  stamped : s.fault = 0 → s.upc = 2 ∨ s.upc = 3 ∨ ∃ x, s.lastTs = some x ∧ T ≤ x

/-- FADE leads to STAMP, STAMP records an answer of at least `T`, and every other micro-op keeps `LAST_TS` or raises it. -/
theorem PacedSince.after_microOp {T : Nat} {i : Instr} {s t : State} (h : PacedSince T s) (hf : s.fault = 0)
    (hd : decode (fetch s) = .instr i) (he : Ends i s t) : PacedSince T t := by
  have hbound : T ≤ t.env.timerFloor := Nat.le_trans h.bound he.timerFloor_le
  refine ⟨h.inv.after_microOp hf hd he, hbound, fun _ => ?_⟩
  obtain ⟨hu, -, -⟩ := h.inv.fetched hd
  obtain h2 | h3 | ⟨x, hx, hle⟩ := h.stamped hf
  · obtain rfl := opcodeOf_eq_two.1 (hu.symm.trans h2)
    cases he
    exact .inr (.inl (by simp [advance_upc, h2]))
  · obtain rfl := opcodeOf_eq_three.1 (hu.symm.trans h3)
    cases he
    exact .inr (.inr ⟨_, stampTime_lastTs s, Nat.le_trans h.bound (timerFloor_le_answer s)⟩)
  · obtain hkept | hfresh := he.lastTs_kept_or_fresh
    · exact .inr (.inr ⟨x, hkept.trans hx, hle⟩)
    · exact .inr (.inr ⟨_, hfresh, hbound⟩)

theorem PacedSince.after_run {T n : Nat} {s u : State} (hs : PacedSince T s) (h : Host.Core.run core n s = .next u)
    (hcount : resetCount u.history = resetCount s.history) : PacedSince T u :=
  run_keeps_without_reset (P := PacedSince T)
    (choice := fun hp => ⟨hp.inv.after_choice, by simpa using hp.bound, by simpa using hp.stamped⟩)
    (transmitter := fun hp => ⟨hp.inv.after_transmitterTurn _, by simpa using hp.bound, by simpa using hp.stamped⟩)
    (illegal := fun hp _ hd => by
      obtain ⟨i, hi⟩ := hp.inv.fetches_instr
      rw [hi] at hd
      cases hd)
    (microOp := fun hp => hp.after_microOp) hs h hcount

/-- The step at index 1 that sets `THR`: TIMECHK of a running core, with the threshold reached (spec/42_sequencer.md R180). -/
theorem MicroProgramInv.crossing {s t : State} (inv : MicroProgramInv s) (hu : s.upc = 1) (hturn : nextTurn s = .sequencer)
    (h : step s = .next t) (hthr : t.thr = true) :
    s.cfg.accepted ∧ s.fault = 0 ∧ t = advance { afterTimer (afterChoice s) with thr := true } ∧
      ∃ last, s.lastTs = some last ∧ thresholdReached s.cfg last (timerAnswer (afterChoice s)) = true := by
  obtain ⟨hc, ⟨hr, -⟩ | ⟨a, ha, -⟩ | ⟨-, hf, ⟨op, hd, -⟩ | ⟨i, hd, he⟩⟩⟩ := step_next_cases h
  · rw [hturn] at hr
    cases hr
  · rw [hturn] at ha
    cases ha
  · obtain ⟨i, hi⟩ := inv.fetches_instr
    rw [hi] at hd
    cases hd
  · obtain ⟨hop, -, -⟩ := inv.fetched hd
    rw [hu] at hop
    cases exec_next_ends he with
    | timechkReached _ tgt last hl hr => exact ⟨hc, hf, rfl, last, by simpa using hl, by simpa using hr⟩
    | timechkNotReached => simp at hthr
    | _ => simp [opcodeOf] at hop

end Sys2Proof.Safety

namespace Sys2Proof.Proofs

open Sys2Proof.Machine Sys2Proof.Safety

/-- Settles O60: the path from one crossing to the next goes through STAMP, so `LAST_TS` is then at least the first answer, and
the second crossing finds 20000 µs since `LAST_TS`. -/
theorem fadesAtLeastTwentyMillisecondsApart : Obligations.FadesAtLeastTwentyMillisecondsApart := by
  intro n s t s' t' inv hunit hu hturn hstep hthr hrun hcount hu' hturn' hstep' hthr'
  obtain ⟨-, -, rfl, -⟩ := inv.crossing hu hturn hstep hthr
  have hstart : PacedSince (timerAnswer (afterChoice s)) (advance { afterTimer (afterChoice s) with thr := true }) :=
    ⟨microProgramInvariantKept _ _ inv hstep, by simp, fun _ => .inl (by simp [advance_upc, hu])⟩
  have hpaced := hstart.after_run hrun hcount
  obtain ⟨hc', hf', -, last, hlast, hreached⟩ := hpaced.inv.crossing hu' hturn' hstep' hthr'
  have hunit' : s'.cfg.timerTicksPerMs = 1000 := by
    have hcfg : s'.cfg = (advance { afterTimer (afterChoice s) with thr := true }).cfg :=
      run_keeps (P := fun x => x.cfg = _) (fun hx hxy => ((parametersNeverWritten _ _ hxy).1).trans hx) rfl hrun
    simpa [hcfg] using hunit
  have helapsed := (thresholdReached_iff_twentyMs hc'.1 hunit' last _).1 hreached
  obtain h2 | h3 | ⟨x, hx, hle⟩ := hpaced.stamped hf'
  · rw [hu'] at h2
    exact absurd h2 (by decide)
  · rw [hu'] at h3
    exact absurd h3 (by decide)
  · obtain rfl := Option.some.inj (hx.symm.trans hlast)
    omega

end Sys2Proof.Proofs

/-! ### INIT, TIMECHK, STAMP -/

namespace Sys2Proof.Machine

@[simp] theorem stampTime_txConfig (s : State) : (stampTime s).env.txConfig = s.env.txConfig := by
  unfold stampTime advance
  split <;> rfl

/-- The timer's answer goes to `LAST_TS`, and the advance writes the rest (spec/42_sequencer.md R185). -/
theorem stampTime_eq_update (s : State) :
    stampTime s = { s with
      lastTs := some (timerAnswer s), upc := (stampTime s).upc, env := (stampTime s).env,
      history := s.history ++ [.time (timerAnswer s)] } :=
  advance_eq_update { afterTimer s with lastTs := some (timerAnswer s) }

/-- An acquisition answered OK leaves the transmitter its configuration (spec/42_sequencer.md R176). -/
theorem afterAcquire_txConfig {s : State} (h : acquireAnswer s = .ok) :
    (afterAcquire s).env.txConfig = some (txConfigOf s.cfg) := if_pos h

end Sys2Proof.Machine

namespace Sys2Proof.Safety

open Sys2Proof.Machine

theorem advancedFrom_stampTime (s : State) : AdvancedFrom s.upc (afterTimer s).env (stampTime s) :=
  advancedFrom_advance { afterTimer s with lastTs := some (timerAnswer s) }

end Sys2Proof.Safety

namespace Sys2Proof.Proofs

open Sys2Proof.Machine Sys2Proof.Safety

/-- Settles O52: the timer's bound never falls but by a reset, which clears `LAST_TS`, and a timestamp is written with the bound
itself. -/
theorem timestampStaysAnswered : Obligations.TimestampStaysAnswered := by
  intro s t hs h
  have ht : TimestampAnswered t := by
    refine step_keeps (P := TimestampAnswered)
      (choice := fun ha => by simpa [TimestampAnswered] using ha)
      (reset := fun _ x hx => by cases hx)
      (transmitter := fun ha => by simpa [TimestampAnswered] using ha)
      (illegal := fun ha _ _ => by simpa [TimestampAnswered] using ha)
      (microOp := fun ha _ _ he x hx => ?_) hs h
    obtain hkept | hfresh := he.lastTs_kept_or_fresh
    · exact Nat.le_trans (ha x (hkept.symm.trans hx)) he.timerFloor_le
    · exact Nat.le_of_eq (Option.some.inj (hx.symm.trans hfresh))
  exact ⟨ht, fun last hlast => Nat.le_trans (ht last hlast) (timerFloor_le_answer t)⟩

/-- Settles O27: one of the two paths of TIMECHK, by the threshold. -/
theorem timechkSetsThresholdFlag : Obligations.TimechkSetsThresholdFlag := by
  refine ⟨by decide, by decide, fun s tgt last hlast hanswered => ?_⟩
  have hle : last ≤ timerAnswer s := Nat.le_trans (hanswered last hlast) (timerFloor_le_answer s)
  cases hr : thresholdReached s.cfg last (timerAnswer s) with
  | true =>
    refine ⟨_, (Ends.timechkReached s tgt last hlast hr).exec_eq, ?_, hle, by simp,
      fun _ => advancedFrom_advance { afterTimer s with thr := true }, by simp, ?_⟩
    · rw [← thresholdReached_iff, hr, advance_thr]
    · rw [advance_thr, advance_history]
      exact advance_eq_update { afterTimer s with thr := true }
  | false =>
    refine ⟨_, (Ends.timechkNotReached s tgt last hlast hr).exec_eq, ?_, hle, rfl, by simp, fun _ => ⟨rfl, rfl⟩, rfl⟩
    rw [← thresholdReached_iff, hr, jump_thr]

/-- Settles O28: `THR` is the threshold test, which in microseconds is reached from 20000 on. -/
theorem thresholdAtTwentyMilliseconds : Obligations.ThresholdAtTwentyMilliseconds := by
  intro s t tgt last hc hunit hlast _ h
  rw [← thresholdReached_iff_twentyMs hc hunit]
  cases exec_next_ends h with
  | timechkReached _ _ x hx hr | timechkNotReached _ _ x hx hr =>
    obtain rfl := Option.some.inj (hx.symm.trans hlast)
    simp [hr]

/-- Settles O30: STAMP is one timer read, one write and the advance. -/
theorem stampRecordsFreshRead : Obligations.StampRecordsFreshRead := by
  refine ⟨by decide, by decide, fun s => ⟨_, (Ends.stamp s).exec_eq, stampTime_lastTs s, timerFloor_le_answer s,
    stampTime_timerFloor s, stampTime_history s, advancedFrom_stampTime s, ?_⟩⟩
  rw [stampTime_lastTs, stampTime_history]
  exact stampTime_eq_update s

/-- Settles O25: the two answers in order, the acquisition's and the timer's, then the advance. -/
theorem initAcquiresAndStamps : Obligations.InitAcquiresAndStamps := by
  refine ⟨by decide, by decide, fun s ha => ⟨_, (Ends.initOk s ha).exec_eq, ?_⟩⟩
  refine ⟨by simp, stampTime_lastTs _, ?_, ?_, advancedFrom_stampTime { afterAcquire s with handleOwned := true }, ?_⟩
  · rw [stampTime_txConfig]
    exact afterAcquire_txConfig ha
  · rw [stampTime_history, afterAcquire_history, ha, List.append_assoc]
    rfl
  · rw [stampTime_handleOwned, stampTime_lastTs, stampTime_history]
    exact stampTime_eq_update { afterAcquire s with handleOwned := true }

/-- Settles O26: the acquisition's answer is followed by the fault entry alone. -/
theorem initFailureIsFatal : Obligations.InitFailureIsFatal := by
  refine fun s ha => ⟨_, (Ends.initErr s ha).exec_eq, ?_, by simp, by simp; rfl⟩
  rw [raise_other (by decide)]
  simp [ha, faultNumber]

end Sys2Proof.Proofs

/-! ### TX, WAIT, DELAY -/

namespace Sys2Proof.Machine

/-- A register in which every entry holds its value of `f` reads as `f` (spec/42_sequencer.md R190). -/
theorem readFrame_eq_some {s : State} {f : Frame} (h : ∀ i : Fin 25, s.frame[i] = some f[i]) : readFrame s = some f := by
  have hstored : s.frame = storedFrame f := by
    ext1 i hi
    rw [storedFrame_getElem]
    exact h ⟨i, hi⟩
  rw [readFrame_eq, hstored, frameValues_storedFrame]

/-- Until the transmitter has answered the token held, WAIT gets no answer (spec/42_sequencer.md R195). -/
theorem waitAnswer_eq_none {s : State} (h : ∀ k a, s.token = some k → s.env.transmitter ≠ .answered k a) :
    waitAnswer s = none := by
  refine Option.eq_none_iff_forall_ne_some.2 fun a ha => ?_
  obtain ⟨k, hx, hk⟩ := waitAnswer_eq_some.1 ha
  exact h k a hk hx

end Sys2Proof.Machine

namespace Sys2Proof.Proofs

open Sys2Proof.Machine Sys2Proof.Safety

/-- Settles O31: with the link free and a whole frame a token takes the path that starts the transmission. -/
theorem txHandsFrameOver : Obligations.TxHandsFrameOver := by
  refine ⟨by decide, by decide, fun s f k hown hbusy hframe ha => ?_⟩
  refine ⟨_, (Ends.txToken s f k hown hbusy (readFrame_eq_some hframe) ha).exec_eq, by simp, by simp, by simp,
    by simp [ha, transmitterAfter], by simp,
    advancedFrom_advance { afterTransmit f s with token := some k, txBusy := true, handleOwned := false }, ?_⟩
  rw [advance_token, advance_txBusy, advance_handleOwned, advance_history]
  exact advance_eq_update { afterTransmit f s with token := some k, txBusy := true, handleOwned := false }

/-- Settles O32: with the link free and a whole frame an error takes the path of FATAL_TX. -/
theorem txErrorIsFatal : Obligations.TxErrorIsFatal := by
  intro s f hown hbusy hframe ha
  rw [(Ends.txErr s f hown hbusy (readFrame_eq_some hframe) ha).exec_eq, raise_fatalTx]
  simp

/-- Settles O34: the answer to the token held is used up and the link is as before TX. -/
theorem waitTakesHandleBack : Obligations.WaitTakesHandleBack := by
  refine ⟨by decide, by decide, fun s k hbusy htoken hx => ?_⟩
  refine ⟨_, (Ends.waitDone s hbusy (waitAnswer_eq_some.2 ⟨k, hx, htoken⟩)).exec_eq, by simp, by simp, by simp, by simp,
    advancedFrom_advance { emit .done (afterWait s) with txBusy := false, handleOwned := true, token := none }, ?_⟩
  rw [advance_token, advance_txBusy, advance_handleOwned, advance_history]
  exact advance_eq_update { emit .done (afterWait s) with txBusy := false, handleOwned := true, token := none }

/-- Settles O35: the answer to the token held is used up before the fault entry of FATAL_TX. -/
theorem waitErrorIsFatal : Obligations.WaitErrorIsFatal := by
  intro s k hbusy htoken hx
  rw [(Ends.waitErr s hbusy (waitAnswer_eq_some.2 ⟨k, hx, htoken⟩)).exec_eq, raise_fatalTx]
  simp

/-- Settles O37: DELAY has one path, an event and the jump. -/
theorem delayJumpsToTarget : Obligations.DelayJumpsToTarget :=
  ⟨by decide, by decide, fun s tgt => (Ends.delay s tgt).exec_eq⟩

end Sys2Proof.Proofs

/-! ### The turns of the agents -/

namespace Sys2Proof.Machine

/-- A turn of the Sequencer that holds at WAIT changes nothing (spec/42_sequencer.md R195, R196). -/
theorem sequencerTurn_holding {s : State} (hf : s.fault = 0) (hd : decode (fetch s) = .instr .wait) (hb : s.txBusy = true)
    (hw : ∀ k a, s.token = some k → s.env.transmitter ≠ .answered k a) : sequencerTurn s = .next s :=
  (sequencerTurn_instr hf hd).trans (Ends.waitHolds s hb (waitAnswer_eq_none hw)).exec_eq

/-- A scripted turn is used up (log entry 14). -/
theorem afterChoice_scripted {s : State} {turn : Turn} {rest : List Turn} (h : s.env.turns = turn :: rest) :
    afterChoice s = { s with env := { s.env with turns := rest } } := by
  unfold afterChoice
  rw [h]

section

variable {s : State} (hc : s.cfg.accepted)

include hc

/-- A step with a scripted turn is that turn, from the state with the turn used up. -/
theorem step_scripted {turn : Turn} {rest : List Turn} (h : s.env.turns = turn :: rest) :
    step s = takeTurn turn { s with env := { s.env with turns := rest } } := by
  rw [step_eq, if_pos hc, nextTurn_scripted h, afterChoice_scripted h]

/-- A step with no turn scripted and no hold at WAIT is the Sequencer's. -/
theorem step_unscripted (h : s.env.turns = []) (hh : holding s = false) : step s = sequencerTurn s := by
  rw [step_eq, if_pos hc, nextTurn_unscripted h hh, afterChoice_unscripted h hh]
  rfl

/-- A scripted hold at WAIT uses up the turn and changes nothing else (spec/42_sequencer.md R196; log entry 15). -/
theorem step_holding {rest : List Turn} (hf : s.fault = 0) (hd : decode (fetch s) = .instr .wait) (hb : s.txBusy = true)
    (hw : ∀ k a, s.token = some k → s.env.transmitter ≠ .answered k a) (h : s.env.turns = .sequencer :: rest) :
    step s = .next { s with env := { s.env with turns := rest } } := by
  rw [step_scripted hc h]
  exact sequencerTurn_holding (s := { s with env := { s.env with turns := rest } }) hf hd hb hw

end

/-- A halted core has no turn of the Sequencer (spec/42_sequencer.md R170). -/
theorem sequencerTurn_halted {s : State} (h : s.fault ≠ 0) : sequencerTurn s = .fault .halted := if_pos (halted_iff.2 h)

theorem not_holding_of_halted {s : State} (h : s.fault ≠ 0) : holding s = false := by
  simp [holding, halted_iff.2 h]

/-- The transmitter's own step changes the agents only (spec/42_sequencer.md R174). -/
theorem transmitterTurn_eq_update (a : WaitAnswer) (s : State) :
    transmitterTurn a s = { s with env := (transmitterTurn a s).env } := by
  unfold transmitterTurn
  split <;> rfl

theorem transmitterTurn_emitting {s : State} {k : Token} {f : Frame} (a : WaitAnswer) (h : s.env.transmitter = .emitting k f) :
    transmitterTurn a s = { s with env := { s.env with transmitter := .answered k a } } := by
  unfold transmitterTurn
  rw [h]

theorem transmitterTurn_not_pending {s : State} (a : WaitAnswer) (h : ∀ k f, s.env.transmitter ≠ .emitting k f) :
    transmitterTurn a s = s := by
  unfold transmitterTurn
  split
  next k f hx => exact absurd hx (h k f)
  all_goals rfl

end Sys2Proof.Machine

namespace Sys2Proof.Proofs

open Sys2Proof.Machine Sys2Proof.Safety

/-- Settles O36: WAIT without an answer keeps the state, so each held turn of the Sequencer is used up and nothing else. -/
theorem waitHoldsUntilAnswered : Obligations.WaitHoldsUntilAnswered := by
  refine ⟨fun s hb hw => (Ends.waitHolds s hb (waitAnswer_eq_none hw)).exec_eq, fun s n hc hf hd hb hw hturns => ?_⟩
  induction n generalizing s with
  | zero =>
    rw [run_zero, ← show s.env.turns = [] from hturns]
  | succ n ih =>
    rw [run_succ (step_holding hc hf hd hb hw hturns)]
    exact ih { s with env := { s.env with turns := List.replicate n .sequencer } } hc hf hd hb hw rfl

/-- Settles O38: neither the choice of the turn nor the fetch adds anything but the turn used up. -/
theorem stepRunsDecodedMicroOp : Obligations.StepRunsDecodedMicroOp := by
  refine fun s i hc hf hd => ⟨fun hturns hh => ?_, fun rest hturns => ?_⟩
  · exact (step_unscripted hc hturns hh).trans (sequencerTurn_instr hf hd)
  · exact (step_scripted hc hturns).trans (sequencerTurn_instr hf hd)

/-- Settles O41: agent by agent, a halted core keeps `FAULT` unless the turn is a reset. -/
theorem onlyResetLeavesHalted : Obligations.OnlyResetLeavesHalted := by
  refine fun s hc hf => ⟨fun hturns => ?_, fun rest hturns => ?_, fun rest a hturns => ?_, fun rest hturns => ?_,
    fun t h ht => ?_⟩
  · exact (step_unscripted hc hturns (not_holding_of_halted hf)).trans (sequencerTurn_halted hf)
  · exact (step_scripted hc hturns).trans (sequencerTurn_halted hf)
  · exact ⟨_, step_scripted hc hturns, transmitterTurn_eq_update a { s with env := { s.env with turns := rest } }⟩
  · exact ⟨_, step_scripted hc hturns, rfl⟩
  · obtain ⟨-, ⟨hreset, -⟩ | ⟨a, -, rfl⟩ | ⟨-, hrunning, -⟩⟩ := step_next_cases h
    · exact turns_of_nextTurn_reset hreset
    · exact absurd (by simpa using ht) hf
    · exact absurd hrunning hf

/-- Settles O44: the scripted turn is the transmitter's, and it has something pending or not. -/
theorem transmitterAnswersPendingTokenOnce : Obligations.TransmitterAnswersPendingTokenOnce := by
  refine fun s rest a hc hturns => ⟨fun k f hx => ?_, fun hx => ?_⟩ <;> rw [step_scripted hc hturns]
  · exact congrArg Host.Outcome.next (transmitterTurn_emitting a hx)
  · exact congrArg Host.Outcome.next (transmitterTurn_not_pending a hx)

end Sys2Proof.Proofs

/-! ### The waveform of a frame -/

namespace Sys2Proof.Machine

/-- The pulse pair of a source bit: high, then low, for the counts of its profile (spec/42_sequencer.md R175). -/
def bitPhases (c : Config) (b : Bool) : List Phase :=
  if b then [⟨.high, (ticks c).t1h⟩, ⟨.low, (ticks c).t1l⟩] else [⟨.high, (ticks c).t0h⟩, ⟨.low, (ticks c).t0l⟩]

/-- A frame is the words of its source bits, then the terminator (spec/40_pulse_encoder.md R115, R118). -/
theorem encodeFrame_toList (c : Config) (v : Packed) :
    (encodeFrame c v).toList = ((List.range 24).map (sourceBit v)).map (profileWord c) ++ [wordTerm] := by
  rw [List.map_map]
  rfl

@[simp] theorem lvl0_profileWord (c : Config) (b : Bool) : lvl0 (profileWord c b) = .high := by
  cases b <;> exact lvl0_dataWord ..

@[simp] theorem lvl1_profileWord (c : Config) (b : Bool) : lvl1 (profileWord c b) = .low := by
  cases b <;> exact lvl1_dataWord ..

/-- The terminator ends the waveform (spec/42_sequencer.md R175). -/
theorem phasesOf_wordTerm : phasesOf [wordTerm] = [] := by decide

theorem waveformTicks_append (ps qs : List Phase) : waveformTicks (ps ++ qs) = waveformTicks ps + waveformTicks qs := by
  simp [waveformTicks]

section

variable {c : Config} (h : c.wellFormed)

include h

/-- The word of a source bit is its pulse pair, and never the end of a frame (spec/40_pulse_encoder.md R116). -/
theorem phasesOf_profileWord_cons (b : Bool) (rest : List EntryWord) :
    phasesOf (profileWord c b :: rest) = bitPhases c b ++ phasesOf rest := by
  rw [phasesOf, if_neg (dur0_profileWord_ne_zero h b), lvl0_profileWord, lvl1_profileWord]
  cases b with
  | true => simp [profileWord, bitPhases, dur0_wordBit1_toNat h, dur1_wordBit1_toNat h]
  | false => simp [profileWord, bitPhases, dur0_wordBit0_toNat h, dur1_wordBit0_toNat h]

/-- The words of a list of bits and a terminator are the bits' pulse pairs, in order. -/
theorem phasesOf_profileWords (bits : List Bool) :
    phasesOf (bits.map (profileWord c) ++ [wordTerm]) = bits.flatMap (bitPhases c) := by
  induction bits with
  | nil => exact phasesOf_wordTerm
  | cons b bits ih =>
    rw [List.map_cons, List.cons_append, phasesOf_profileWord_cons h, ih, List.flatMap_cons]

/-- In EXACT mode the pulse pair of either bit takes one period (spec/40_pulse_encoder.md R112). -/
theorem waveformTicks_bitPhases (hmode : c.tickMode = .exact) (b : Bool) : waveformTicks (bitPhases c b) = periodTicks c := by
  obtain ⟨-, -, htimes, -⟩ := h
  obtain ⟨-, hperiod, -⟩ := Proofs.exactProfilesTakeOnePeriod
  obtain ⟨-, -, hone, hzero⟩ := hperiod c hmode htimes
  cases b with
  | true => simpa [waveformTicks, bitPhases, periodTicks] using hone
  | false => simpa [waveformTicks, bitPhases, periodTicks] using hzero

theorem waveformTicks_flatMap_bitPhases (hmode : c.tickMode = .exact) (bits : List Bool) :
    waveformTicks (bits.flatMap (bitPhases c)) = bits.length * periodTicks c := by
  induction bits with
  | nil => simp [waveformTicks]
  | cons b bits ih =>
    rw [List.flatMap_cons, waveformTicks_append, waveformTicks_bitPhases h hmode, ih, List.length_cons, Nat.succ_mul,
      Nat.add_comm]

end

end Sys2Proof.Machine

namespace Sys2Proof.Proofs

open Sys2Proof.Machine

/-- Settles O13: every data entry is a pulse pair and only the terminator ends them; in EXACT mode each pair is one period. -/
theorem frameWaveform : Obligations.FrameWaveform := by
  intro c v hc
  have hbits : waveform (encodeFrame c v) = ((List.range 24).map (sourceBit v)).flatMap (bitPhases c) := by
    rw [waveform, encodeFrame_toList, phasesOf_profileWords hc]
  refine ⟨by rw [hbits, List.flatMap_map]; rfl, fun hmode => ?_⟩
  rw [hbits, waveformTicks_flatMap_bitPhases hc hmode, List.length_map, List.length_range]

end Sys2Proof.Proofs

/-! ### Faults and their precision -/

namespace Sys2Proof.Machine

/-- The faults a micro-op may raise (spec/60_exceptions.md R220, R221). -/
def raisable : Instr → List FaultCode
  | .init      => [.fatalInit]
  | .encode    => [.ownership]
  | .tx        => [.fatalTx, .ownership]
  | .wait      => [.fatalTx, .ownership]
  | .timechk _ => []
  | .fade      => []
  | .stamp     => []
  | .pack      => []
  | .delay _   => []

/-- No fault was raised between `s` and `t`: the fault registers are kept and no fault event is new. -/
def QuietFrom (s t : State) : Prop :=
  t.fault = s.fault ∧ t.faultUpc = s.faultUpc ∧ ∀ c u, .fault c u ∈ t.history → .fault c u ∈ s.history

/-- A micro-op raises nothing, or its fault entry is taken from the state before it, of which only the agents have changed and
the history has grown (spec/60_exceptions.md R220, R223). -/
theorem Ends.quiet_or_raised {i : Instr} {s t : State} (h : Ends i s t) :
    QuietFrom s t ∨
      ∃ c ∈ raisable i, ∃ e before, t = raise c { s with env := e, history := s.history ++ before } := by
  cases h with
  | initErr =>
    exact .inr ⟨.fatalInit, by simp [raisable], (afterAcquire s).env, [.acquire (acquireAnswer s)], rfl⟩
  | encodeBusy | txForbidden | waitIdle =>
    exact .inr ⟨.ownership, by simp [raisable], s.env, [], by rw [List.append_nil]⟩
  | txErr _ f =>
    exact .inr ⟨.fatalTx, by simp [raisable], (afterTransmit f s).env, [.transmit f, .txError], by simp [raise_fatalTx]⟩
  | waitErr => exact .inr ⟨.fatalTx, by simp [raisable], (afterWait s).env, [.txError], rfl⟩
  | fade =>
    refine .inl ⟨by simp, by simp, fun c u hmem => ?_⟩
    obtain hnone | ⟨wR, wG, wB, hdraws⟩ := retarget_history_cases s
    · simpa [hnone] using hmem
    · simpa [hdraws] using hmem
  | _ => exact .inl ⟨by simp, by simp, by simp⟩

theorem faultNumber_eq_two {c : FaultCode} : faultNumber c = 2 ↔ c = .fatalTx := by cases c <;> decide

/-- A turn of the Sequencer on a reserved word raises ILLEGAL_OP (spec/60_exceptions.md R226). -/
theorem sequencerTurn_illegal {s : State} {op : BitVec 4} (hf : s.fault = 0) (hd : decode (fetch s) = .illegal op) :
    sequencerTurn s = .next (raise .illegalOp s) := by
  unfold sequencerTurn
  rw [not_halted_iff.2 hf, hd]
  rfl

theorem not_holding_of_illegal {s : State} {op : BitVec 4} (hd : decode (fetch s) = .illegal op) : holding s = false := by
  simp [holding, hd]

end Sys2Proof.Machine

namespace Sys2Proof.Proofs

open Sys2Proof.Machine Sys2Proof.Safety

/-- Settles O40: a reserved word is no WAIT, so the unscripted turn is the Sequencer's as well, and its fetch raises the fault. -/
theorem reservedOpcodeRaisesIllegalOp : Obligations.ReservedOpcodeRaisesIllegalOp := by
  refine ⟨fun s hc hf hop => ?_, by decide⟩
  have hd : decode (fetch s) = .illegal (opField (fetch s)) := decode_of_reserved hop
  refine ⟨fun hturns => ⟨_, ?_, faultedFrom_raise (by decide) s⟩,
    fun rest hturns => ⟨_, ?_, faultedFrom_raise (by decide) _⟩⟩
  · exact (step_unscripted hc hturns (not_holding_of_illegal hd)).trans (sequencerTurn_illegal hf hd)
  · exact (step_scripted hc hturns).trans (sequencerTurn_illegal hf hd)

/-- Settles O45: the fault entry is taken from the state before the micro-op, and FATAL_TX alone drops the link. -/
theorem faultsArePrecise : Obligations.FaultsArePrecise := by
  intro i s t hf h hraised
  obtain ⟨hkept, -⟩ | ⟨c, -, e, before, rfl⟩ := (exec_next_ends h).quiet_or_raised
  · exact absurd (hkept.trans hf) hraised
  · refine ⟨?_, ?_, ?_, before, c, raise_history .., raise_fault ..⟩
    · cases c <;> rfl
    · rw [raise_fault, Ne, faultNumber_eq_two]
      intro hc
      simp [hc]
    · rw [raise_fault, faultNumber_eq_two]
      intro hc
      simp [hc]

/-- Settles O46: none of the five is among the micro-ops that may raise a fault. -/
theorem datapathMicroOpsRaiseNothing : Obligations.DatapathMicroOpsRaiseNothing := by
  intro i s t hi h
  obtain hquiet | ⟨c, hc, -⟩ := (exec_next_ends h).quiet_or_raised
  · exact hquiet
  · obtain rfl | rfl | rfl | ⟨tgt, rfl⟩ | ⟨tgt, rfl⟩ := hi <;> exact absurd hc List.not_mem_nil

/-- Settles O33: each violation is a path of its micro-op that is the fault entry of OWNERSHIP alone. -/
theorem ownershipViolationsFault : Obligations.OwnershipViolationsFault :=
  ⟨fun s h => ⟨_, (Ends.txForbidden s h).exec_eq, faultedFrom_raise (by decide) s⟩,
    fun s h => ⟨_, (Ends.waitIdle s h).exec_eq, faultedFrom_raise (by decide) s⟩,
    fun s h => ⟨_, (Ends.encodeBusy s h).exec_eq, faultedFrom_raise (by decide) s⟩⟩

end Sys2Proof.Proofs

/-! ### The reset turn -/

namespace Sys2Proof.Machine

@[simp] theorem takeReset_thr (s : State) : (takeReset s).thr = false := rfl
@[simp] theorem takeReset_handleOwned (s : State) : (takeReset s).handleOwned = false := rfl
@[simp] theorem takeReset_token (s : State) : (takeReset s).token = none := rfl
@[simp] theorem takeReset_faultUpc (s : State) : (takeReset s).faultUpc = 0 := rfl

/-- No entry of `FRAME` holds a value after reset (spec/10_state.md R41). -/
@[simp] theorem takeReset_frame_getElem (s : State) (i : Nat) (h : i < 25) : (takeReset s).frame[i] = none :=
  Vector.getElem_replicate h

@[simp] theorem afterReset_transmitter (e : Env) : e.afterReset.transmitter = .idle := rfl
@[simp] theorem afterReset_timerFloor (e : Env) : e.afterReset.timerFloor = 0 := rfl
@[simp] theorem afterReset_turns (e : Env) : e.afterReset.turns = e.turns := rfl

/-- A scripted reset is taken whatever the core is doing: no hold, no fault and no fetch is consulted
(spec/70_reset_and_hazards.md R250). -/
theorem step_reset {s : State} {rest : List Turn} (hc : s.cfg.accepted) (h : s.env.turns = .reset :: rest) :
    step s = .next (takeReset { s with env := { s.env with turns := rest } }) :=
  step_scripted hc h

end Sys2Proof.Machine

namespace Sys2Proof.Proofs

open Sys2Proof.Machine

/-- Settles O42: the turn is `takeReset` from the state with the turn used up, and each element is read off by its own rule. -/
theorem resetTakenFromAnyState : Obligations.ResetTakenFromAnyState := by
  intro s rest hc hturns
  refine ⟨_, step_reset hc hturns, takeReset_cur _, takeReset_tgt _, takeReset_packed _, takeReset_lastTs _,
    takeReset_thr _, takeReset_upc _, fun i => takeReset_frame_getElem _ i i.isLt, takeReset_txBusy _,
    takeReset_handleOwned _, takeReset_token _, takeReset_fault _, takeReset_faultUpc _, takeReset_cfg _,
    takeReset_rom _, takeReset_history _, ?_⟩
  rw [takeReset_env]
  exact ⟨afterReset_transmitter _, afterReset_timerFloor _, afterReset_turns _⟩

end Sys2Proof.Proofs
